-- ==== Sys2Proof/Word.lean ====
section
/-! DEFINITION. The word types of the machine (00_scope.md R6: 8-bit data and registers, 16-bit pairs, SP, PC and
addresses). Bit fields, byte order and sign extension are operations that a repair may mend, so they stand in
Machine/Bits.lean. -/

namespace Sys2Proof

/-- A data byte: an 8-bit register or one memory access (R6, R105). -/
abbrev Byte := BitVec 8

/-- A 16-bit value: a register pair, SP, PC or an address (R6, R100). -/
abbrev Word := BitVec 16

/-- A framebuffer pixel: a 2-bit shade in DMG mode or an RGB555 colour in CGB mode (R40). -/
abbrev Pixel := BitVec 15

end Sys2Proof
end

