-- ==== Sys2Proof/Machine/Bits.lean ====
section
/-! DEFINITION. Bit fields, byte order and sign extension (00_scope.md R8, R9, 20_memory.md R104). -/

namespace Sys2Proof.Machine

/-- The high byte `v[15:8]` of a 16-bit value (R8). -/
def hiByte (v : Word) : Byte := v.extractLsb' 8 8

/-- The low byte `v[7:0]` of a 16-bit value (R8). -/
def loByte (v : Word) : Byte := v.extractLsb' 0 8

/-- `{hi, lo}`: the 16-bit value with the given halves (R8). -/
def joinBytes (hi lo : Byte) : Word := hi ++ lo

/-- `sext_16(v)`: the 8-bit value sign-extended to 16 bits (R9). -/
def sext16 (v : Byte) : Word := v.signExtend 16

/-- `zext_16(v)`: the 8-bit value zero-extended to 16 bits (R9). -/
def zext16 (v : Byte) : Word := v.setWidth 16

/-- `v[hi:lo]` as an unsigned number (R8). -/
def field (v : Byte) (hi lo : Nat) : Nat := v.toNat / 2 ^ lo % 2 ^ (hi + 1 - lo)

/-- A one-bit value as a number. -/
def bitNat (b : Bool) : Nat := if b then 1 else 0

/-- A one-bit value placed at bit `k` of a byte. -/
def bitAt (k : Nat) (b : Bool) : Byte := if b then 1 <<< k else 0

end Sys2Proof.Machine
end

