-- ==== Sys2Proof/Syntax.lean ====
section
/-! DEFINITION. The instruction set as syntax (30_encoding.md R200-R212): one constructor per row of
spec/opcode_table.json, each with its row's opcode and name. The register, pair, condition, bit
and RST fields of an opcode are folded into the constructor; what is left as an argument is the immediate operand.
After the inductive stand the builders that pick a constructor from the operand fields of R202-R205. -/

namespace Sys2Proof

/-- The 8-bit registers of R30, in the order of the operand table R202. -/
inductive Reg8 where
  | b
  | c
  | d
  | e
  | h
  | l
  | a
  deriving DecidableEq, Repr

/-- The register pairs of table `rp` (R203). -/
inductive Pair where
  | bc
  | de
  | hl
  | sp
  deriving DecidableEq, Repr

/-- The register pairs of table `rp2`, PUSH and POP (R203). -/
inductive StackPair where
  | bc
  | de
  | hl
  | af
  deriving DecidableEq, Repr

/-- The condition codes (R204). -/
inductive Cond where
  | nz
  | z
  | nc
  | c
  deriving DecidableEq, Repr

/-- The 8-bit ALU operations in the order of field y (R205). -/
inductive AluOp where
  | add
  | adc
  | sub
  | sbc
  | and
  | xor
  | or
  | cp
  deriving DecidableEq, Repr

/-- The prefixed rotates and shifts in the order of field y (R205, R396). -/
inductive RotOp where
  | rlc
  | rrc
  | rl
  | rr
  | sla
  | sra
  | swap
  | srl
  deriving DecidableEq, Repr

/-- The eleven illegal primary opcodes (R210, R486). -/
inductive IllegalOp where
  | d3
  | db
  | dd
  | e3
  | e4
  | eb
  | ec
  | ed
  | f4
  | fc
  | fd
  deriving DecidableEq, Repr

/-- The instructions: one constructor per row of spec/opcode_table.json. The rows with an operand stand first (Lean's
runtime bounds the index of a constructor with a field), then the others, each group in the table's order. -/
inductive Instr where
  /-- 0x01 LD BC, d16 (R330). -/
  | ldBCd16 (v : Word)
  /-- 0x06 LD B, d8 (R301). -/
  | ldBd8 (n : Byte)
  /-- 0x08 LD (a16), SP (R331). -/
  | ldAtA16SP (t : Word)
  /-- 0x0E LD C, d8 (R301). -/
  | ldCd8 (n : Byte)
  /-- 0x10 STOP (R483). -/
  | stop (n : Byte)
  /-- 0x11 LD DE, d16 (R330). -/
  | ldDEd16 (v : Word)
  /-- 0x16 LD D, d8 (R301). -/
  | ldDd8 (n : Byte)
  /-- 0x18 JR e8 (R453). -/
  | jr (e : Byte)
  /-- 0x1E LD E, d8 (R301). -/
  | ldEd8 (n : Byte)
  /-- 0x20 JR NZ, e8 (R454). -/
  | jrNZ (e : Byte)
  /-- 0x21 LD HL, d16 (R330). -/
  | ldHLd16 (v : Word)
  /-- 0x26 LD H, d8 (R301). -/
  | ldHd8 (n : Byte)
  /-- 0x28 JR Z, e8 (R454). -/
  | jrZ (e : Byte)
  /-- 0x2E LD L, d8 (R301). -/
  | ldLd8 (n : Byte)
  /-- 0x30 JR NC, e8 (R454). -/
  | jrNC (e : Byte)
  /-- 0x31 LD SP, d16 (R330). -/
  | ldSPd16 (v : Word)
  /-- 0x36 LD (HL), d8 (R304). -/
  | ldAtHLd8 (n : Byte)
  /-- 0x38 JR C, e8 (R454). -/
  | jrC (e : Byte)
  /-- 0x3E LD A, d8 (R301). -/
  | ldAd8 (n : Byte)
  /-- 0xC2 JP NZ, a16 (R451). -/
  | jpNZ (t : Word)
  /-- 0xC3 JP a16 (R450). -/
  | jp (t : Word)
  /-- 0xC4 CALL NZ, a16 (R456). -/
  | callNZ (t : Word)
  /-- 0xC6 ADD A, d8 (R352). -/
  | addAd8 (n : Byte)
  /-- 0xCA JP Z, a16 (R451). -/
  | jpZ (t : Word)
  /-- 0xCC CALL Z, a16 (R456). -/
  | callZ (t : Word)
  /-- 0xCD CALL a16 (R455). -/
  | call (t : Word)
  /-- 0xCE ADC A, d8 (R355). -/
  | adcAd8 (n : Byte)
  /-- 0xD2 JP NC, a16 (R451). -/
  | jpNC (t : Word)
  /-- 0xD4 CALL NC, a16 (R456). -/
  | callNC (t : Word)
  /-- 0xD6 SUB d8 (R358). -/
  | subd8 (n : Byte)
  /-- 0xDA JP C, a16 (R451). -/
  | jpC (t : Word)
  /-- 0xDC CALL C, a16 (R456). -/
  | callC (t : Word)
  /-- 0xDE SBC A, d8 (R361). -/
  | sbcAd8 (n : Byte)
  /-- 0xE0 LDH (a8), A (R314). -/
  | ldhAtA8A (n : Byte)
  /-- 0xE6 AND d8 (R364). -/
  | andd8 (n : Byte)
  /-- 0xE8 ADD SP, e8 (R393). -/
  | addSPe8 (e : Byte)
  /-- 0xEA LD (a16), A (R310). -/
  | ldAtA16A (t : Word)
  /-- 0xEE XOR d8 (R367). -/
  | xord8 (n : Byte)
  /-- 0xF0 LDH A, (a8) (R313). -/
  | ldhAAtA8 (n : Byte)
  /-- 0xF6 OR d8 (R370). -/
  | ord8 (n : Byte)
  /-- 0xF8 LD HL, SP+e8 (R333). -/
  | ldHLSPe8 (e : Byte)
  /-- 0xFA LD A, (a16) (R309). -/
  | ldAAtA16 (t : Word)
  /-- 0xFE CP d8 (R373). -/
  | cpd8 (n : Byte)
  /-- 0x00 NOP (R480). -/
  | nop
  /-- 0x02 LD (BC), A (R307). -/
  | ldAtBCA
  /-- 0x03 INC BC (R391). -/
  | incBC
  /-- 0x04 INC B (R374). -/
  | incB
  /-- 0x05 DEC B (R376). -/
  | decB
  /-- 0x07 RLCA (R400). -/
  | rlca
  /-- 0x09 ADD HL, BC (R390). -/
  | addHLBC
  /-- 0x0A LD A, (BC) (R305). -/
  | ldAAtBC
  /-- 0x0B DEC BC (R392). -/
  | decBC
  /-- 0x0C INC C (R374). -/
  | incC
  /-- 0x0D DEC C (R376). -/
  | decC
  /-- 0x0F RRCA (R401). -/
  | rrca
  /-- 0x12 LD (DE), A (R308). -/
  | ldAtDEA
  /-- 0x13 INC DE (R391). -/
  | incDE
  /-- 0x14 INC D (R374). -/
  | incD
  /-- 0x15 DEC D (R376). -/
  | decD
  /-- 0x17 RLA (R402). -/
  | rla
  /-- 0x19 ADD HL, DE (R390). -/
  | addHLDE
  /-- 0x1A LD A, (DE) (R306). -/
  | ldAAtDE
  /-- 0x1B DEC DE (R392). -/
  | decDE
  /-- 0x1C INC E (R374). -/
  | incE
  /-- 0x1D DEC E (R376). -/
  | decE
  /-- 0x1F RRA (R403). -/
  | rra
  /-- 0x22 LD (HL+), A (R317). -/
  | ldAtHLIncA
  /-- 0x23 INC HL (R391). -/
  | incHL
  /-- 0x24 INC H (R374). -/
  | incH
  /-- 0x25 DEC H (R376). -/
  | decH
  /-- 0x27 DAA (R378). -/
  | daa
  /-- 0x29 ADD HL, HL (R390). -/
  | addHLHL
  /-- 0x2A LD A, (HL+) (R315). -/
  | ldAAtHLInc
  /-- 0x2B DEC HL (R392). -/
  | decHL
  /-- 0x2C INC L (R374). -/
  | incL
  /-- 0x2D DEC L (R376). -/
  | decL
  /-- 0x2F CPL (R379). -/
  | cpl
  /-- 0x32 LD (HL-), A (R318). -/
  | ldAtHLDecA
  /-- 0x33 INC SP (R391). -/
  | incSP
  /-- 0x34 INC (HL) (R375). -/
  | incAtHL
  /-- 0x35 DEC (HL) (R377). -/
  | decAtHL
  /-- 0x37 SCF (R380). -/
  | scf
  /-- 0x39 ADD HL, SP (R390). -/
  | addHLSP
  /-- 0x3A LD A, (HL-) (R316). -/
  | ldAAtHLDec
  /-- 0x3B DEC SP (R392). -/
  | decSP
  /-- 0x3C INC A (R374). -/
  | incA
  /-- 0x3D DEC A (R376). -/
  | decA
  /-- 0x3F CCF (R381). -/
  | ccf
  /-- 0x40 LD B, B (R300). -/
  | ldBB
  /-- 0x41 LD B, C (R300). -/
  | ldBC
  /-- 0x42 LD B, D (R300). -/
  | ldBD
  /-- 0x43 LD B, E (R300). -/
  | ldBE
  /-- 0x44 LD B, H (R300). -/
  | ldBH
  /-- 0x45 LD B, L (R300). -/
  | ldBL
  /-- 0x46 LD B, (HL) (R302). -/
  | ldBAtHL
  /-- 0x47 LD B, A (R300). -/
  | ldBA
  /-- 0x48 LD C, B (R300). -/
  | ldCB
  /-- 0x49 LD C, C (R300). -/
  | ldCC
  /-- 0x4A LD C, D (R300). -/
  | ldCD
  /-- 0x4B LD C, E (R300). -/
  | ldCE
  /-- 0x4C LD C, H (R300). -/
  | ldCH
  /-- 0x4D LD C, L (R300). -/
  | ldCL
  /-- 0x4E LD C, (HL) (R302). -/
  | ldCAtHL
  /-- 0x4F LD C, A (R300). -/
  | ldCA
  /-- 0x50 LD D, B (R300). -/
  | ldDB
  /-- 0x51 LD D, C (R300). -/
  | ldDC
  /-- 0x52 LD D, D (R300). -/
  | ldDD
  /-- 0x53 LD D, E (R300). -/
  | ldDE
  /-- 0x54 LD D, H (R300). -/
  | ldDH
  /-- 0x55 LD D, L (R300). -/
  | ldDL
  /-- 0x56 LD D, (HL) (R302). -/
  | ldDAtHL
  /-- 0x57 LD D, A (R300). -/
  | ldDA
  /-- 0x58 LD E, B (R300). -/
  | ldEB
  /-- 0x59 LD E, C (R300). -/
  | ldEC
  /-- 0x5A LD E, D (R300). -/
  | ldED
  /-- 0x5B LD E, E (R300). -/
  | ldEE
  /-- 0x5C LD E, H (R300). -/
  | ldEH
  /-- 0x5D LD E, L (R300). -/
  | ldEL
  /-- 0x5E LD E, (HL) (R302). -/
  | ldEAtHL
  /-- 0x5F LD E, A (R300). -/
  | ldEA
  /-- 0x60 LD H, B (R300). -/
  | ldHB
  /-- 0x61 LD H, C (R300). -/
  | ldHC
  /-- 0x62 LD H, D (R300). -/
  | ldHD
  /-- 0x63 LD H, E (R300). -/
  | ldHE
  /-- 0x64 LD H, H (R300). -/
  | ldHH
  /-- 0x65 LD H, L (R300). -/
  | ldHL
  /-- 0x66 LD H, (HL) (R302). -/
  | ldHAtHL
  /-- 0x67 LD H, A (R300). -/
  | ldHA
  /-- 0x68 LD L, B (R300). -/
  | ldLB
  /-- 0x69 LD L, C (R300). -/
  | ldLC
  /-- 0x6A LD L, D (R300). -/
  | ldLD
  /-- 0x6B LD L, E (R300). -/
  | ldLE
  /-- 0x6C LD L, H (R300). -/
  | ldLH
  /-- 0x6D LD L, L (R300). -/
  | ldLL
  /-- 0x6E LD L, (HL) (R302). -/
  | ldLAtHL
  /-- 0x6F LD L, A (R300). -/
  | ldLA
  /-- 0x70 LD (HL), B (R303). -/
  | ldAtHLB
  /-- 0x71 LD (HL), C (R303). -/
  | ldAtHLC
  /-- 0x72 LD (HL), D (R303). -/
  | ldAtHLD
  /-- 0x73 LD (HL), E (R303). -/
  | ldAtHLE
  /-- 0x74 LD (HL), H (R303). -/
  | ldAtHLH
  /-- 0x75 LD (HL), L (R303). -/
  | ldAtHLL
  /-- 0x76 HALT (R481). -/
  | halt
  /-- 0x77 LD (HL), A (R303). -/
  | ldAtHLA
  /-- 0x78 LD A, B (R300). -/
  | ldAB
  /-- 0x79 LD A, C (R300). -/
  | ldAC
  /-- 0x7A LD A, D (R300). -/
  | ldAD
  /-- 0x7B LD A, E (R300). -/
  | ldAE
  /-- 0x7C LD A, H (R300). -/
  | ldAH
  /-- 0x7D LD A, L (R300). -/
  | ldAL
  /-- 0x7E LD A, (HL) (R302). -/
  | ldAAtHL
  /-- 0x7F LD A, A (R300). -/
  | ldAA
  /-- 0x80 ADD A, B (R350). -/
  | addAB
  /-- 0x81 ADD A, C (R350). -/
  | addAC
  /-- 0x82 ADD A, D (R350). -/
  | addAD
  /-- 0x83 ADD A, E (R350). -/
  | addAE
  /-- 0x84 ADD A, H (R350). -/
  | addAH
  /-- 0x85 ADD A, L (R350). -/
  | addAL
  /-- 0x86 ADD A, (HL) (R351). -/
  | addAAtHL
  /-- 0x87 ADD A, A (R350). -/
  | addAA
  /-- 0x88 ADC A, B (R353). -/
  | adcAB
  /-- 0x89 ADC A, C (R353). -/
  | adcAC
  /-- 0x8A ADC A, D (R353). -/
  | adcAD
  /-- 0x8B ADC A, E (R353). -/
  | adcAE
  /-- 0x8C ADC A, H (R353). -/
  | adcAH
  /-- 0x8D ADC A, L (R353). -/
  | adcAL
  /-- 0x8E ADC A, (HL) (R354). -/
  | adcAAtHL
  /-- 0x8F ADC A, A (R353). -/
  | adcAA
  /-- 0x90 SUB B (R356). -/
  | subB
  /-- 0x91 SUB C (R356). -/
  | subC
  /-- 0x92 SUB D (R356). -/
  | subD
  /-- 0x93 SUB E (R356). -/
  | subE
  /-- 0x94 SUB H (R356). -/
  | subH
  /-- 0x95 SUB L (R356). -/
  | subL
  /-- 0x96 SUB (HL) (R357). -/
  | subAtHL
  /-- 0x97 SUB A (R356). -/
  | subA
  /-- 0x98 SBC A, B (R359). -/
  | sbcAB
  /-- 0x99 SBC A, C (R359). -/
  | sbcAC
  /-- 0x9A SBC A, D (R359). -/
  | sbcAD
  /-- 0x9B SBC A, E (R359). -/
  | sbcAE
  /-- 0x9C SBC A, H (R359). -/
  | sbcAH
  /-- 0x9D SBC A, L (R359). -/
  | sbcAL
  /-- 0x9E SBC A, (HL) (R360). -/
  | sbcAAtHL
  /-- 0x9F SBC A, A (R359). -/
  | sbcAA
  /-- 0xA0 AND B (R362). -/
  | andB
  /-- 0xA1 AND C (R362). -/
  | andC
  /-- 0xA2 AND D (R362). -/
  | andD
  /-- 0xA3 AND E (R362). -/
  | andE
  /-- 0xA4 AND H (R362). -/
  | andH
  /-- 0xA5 AND L (R362). -/
  | andL
  /-- 0xA6 AND (HL) (R363). -/
  | andAtHL
  /-- 0xA7 AND A (R362). -/
  | andA
  /-- 0xA8 XOR B (R365). -/
  | xorB
  /-- 0xA9 XOR C (R365). -/
  | xorC
  /-- 0xAA XOR D (R365). -/
  | xorD
  /-- 0xAB XOR E (R365). -/
  | xorE
  /-- 0xAC XOR H (R365). -/
  | xorH
  /-- 0xAD XOR L (R365). -/
  | xorL
  /-- 0xAE XOR (HL) (R366). -/
  | xorAtHL
  /-- 0xAF XOR A (R365). -/
  | xorA
  /-- 0xB0 OR B (R368). -/
  | orB
  /-- 0xB1 OR C (R368). -/
  | orC
  /-- 0xB2 OR D (R368). -/
  | orD
  /-- 0xB3 OR E (R368). -/
  | orE
  /-- 0xB4 OR H (R368). -/
  | orH
  /-- 0xB5 OR L (R368). -/
  | orL
  /-- 0xB6 OR (HL) (R369). -/
  | orAtHL
  /-- 0xB7 OR A (R368). -/
  | orA
  /-- 0xB8 CP B (R371). -/
  | cpB
  /-- 0xB9 CP C (R371). -/
  | cpC
  /-- 0xBA CP D (R371). -/
  | cpD
  /-- 0xBB CP E (R371). -/
  | cpE
  /-- 0xBC CP H (R371). -/
  | cpH
  /-- 0xBD CP L (R371). -/
  | cpL
  /-- 0xBE CP (HL) (R372). -/
  | cpAtHL
  /-- 0xBF CP A (R371). -/
  | cpA
  /-- 0xC0 RET NZ (R458). -/
  | retNZ
  /-- 0xC1 POP BC (R337). -/
  | popBC
  /-- 0xC5 PUSH BC (R334). -/
  | pushBC
  /-- 0xC7 RST 0x00 (R462). -/
  | rst00
  /-- 0xC8 RET Z (R458). -/
  | retZ
  /-- 0xC9 RET (R457). -/
  | ret
  /-- 0xCF RST 0x08 (R462). -/
  | rst08
  /-- 0xD0 RET NC (R458). -/
  | retNC
  /-- 0xD1 POP DE (R337). -/
  | popDE
  /-- 0xD3 ILLEGAL_D3 (R486). -/
  | illegalD3
  /-- 0xD5 PUSH DE (R334). -/
  | pushDE
  /-- 0xD7 RST 0x10 (R462). -/
  | rst10
  /-- 0xD8 RET C (R458). -/
  | retC
  /-- 0xD9 RETI (R459). -/
  | reti
  /-- 0xDB ILLEGAL_DB (R486). -/
  | illegalDB
  /-- 0xDD ILLEGAL_DD (R486). -/
  | illegalDD
  /-- 0xDF RST 0x18 (R462). -/
  | rst18
  /-- 0xE1 POP HL (R337). -/
  | popHL
  /-- 0xE2 LDH (C), A (R312). -/
  | ldhAtCA
  /-- 0xE3 ILLEGAL_E3 (R486). -/
  | illegalE3
  /-- 0xE4 ILLEGAL_E4 (R486). -/
  | illegalE4
  /-- 0xE5 PUSH HL (R334). -/
  | pushHL
  /-- 0xE7 RST 0x20 (R462). -/
  | rst20
  /-- 0xE9 JP HL (R452). -/
  | jpHL
  /-- 0xEB ILLEGAL_EB (R486). -/
  | illegalEB
  /-- 0xEC ILLEGAL_EC (R486). -/
  | illegalEC
  /-- 0xED ILLEGAL_ED (R486). -/
  | illegalED
  /-- 0xEF RST 0x28 (R462). -/
  | rst28
  /-- 0xF1 POP AF (R338). -/
  | popAF
  /-- 0xF2 LDH A, (C) (R311). -/
  | ldhAAtC
  /-- 0xF3 DI (R484). -/
  | di
  /-- 0xF4 ILLEGAL_F4 (R486). -/
  | illegalF4
  /-- 0xF5 PUSH AF (R336). -/
  | pushAF
  /-- 0xF7 RST 0x30 (R462). -/
  | rst30
  /-- 0xF9 LD SP, HL (R332). -/
  | ldSPHL
  /-- 0xFB EI (R485). -/
  | ei
  /-- 0xFC ILLEGAL_FC (R486). -/
  | illegalFC
  /-- 0xFD ILLEGAL_FD (R486). -/
  | illegalFD
  /-- 0xFF RST 0x38 (R462). -/
  | rst38
  /-- 0xCB PREFIX CB (R487). -/
  | prefixCb
  /-- 0xCB 0x00 RLC B (R404). -/
  | rlcB
  /-- 0xCB 0x01 RLC C (R404). -/
  | rlcC
  /-- 0xCB 0x02 RLC D (R404). -/
  | rlcD
  /-- 0xCB 0x03 RLC E (R404). -/
  | rlcE
  /-- 0xCB 0x04 RLC H (R404). -/
  | rlcH
  /-- 0xCB 0x05 RLC L (R404). -/
  | rlcL
  /-- 0xCB 0x06 RLC (HL) (R405). -/
  | rlcAtHL
  /-- 0xCB 0x07 RLC A (R404). -/
  | rlcA
  /-- 0xCB 0x08 RRC B (R406). -/
  | rrcB
  /-- 0xCB 0x09 RRC C (R406). -/
  | rrcC
  /-- 0xCB 0x0A RRC D (R406). -/
  | rrcD
  /-- 0xCB 0x0B RRC E (R406). -/
  | rrcE
  /-- 0xCB 0x0C RRC H (R406). -/
  | rrcH
  /-- 0xCB 0x0D RRC L (R406). -/
  | rrcL
  /-- 0xCB 0x0E RRC (HL) (R407). -/
  | rrcAtHL
  /-- 0xCB 0x0F RRC A (R406). -/
  | rrcA
  /-- 0xCB 0x10 RL B (R408). -/
  | rlB
  /-- 0xCB 0x11 RL C (R408). -/
  | rlC
  /-- 0xCB 0x12 RL D (R408). -/
  | rlD
  /-- 0xCB 0x13 RL E (R408). -/
  | rlE
  /-- 0xCB 0x14 RL H (R408). -/
  | rlH
  /-- 0xCB 0x15 RL L (R408). -/
  | rlL
  /-- 0xCB 0x16 RL (HL) (R409). -/
  | rlAtHL
  /-- 0xCB 0x17 RL A (R408). -/
  | rlA
  /-- 0xCB 0x18 RR B (R410). -/
  | rrB
  /-- 0xCB 0x19 RR C (R410). -/
  | rrC
  /-- 0xCB 0x1A RR D (R410). -/
  | rrD
  /-- 0xCB 0x1B RR E (R410). -/
  | rrE
  /-- 0xCB 0x1C RR H (R410). -/
  | rrH
  /-- 0xCB 0x1D RR L (R410). -/
  | rrL
  /-- 0xCB 0x1E RR (HL) (R411). -/
  | rrAtHL
  /-- 0xCB 0x1F RR A (R410). -/
  | rrA
  /-- 0xCB 0x20 SLA B (R412). -/
  | slaB
  /-- 0xCB 0x21 SLA C (R412). -/
  | slaC
  /-- 0xCB 0x22 SLA D (R412). -/
  | slaD
  /-- 0xCB 0x23 SLA E (R412). -/
  | slaE
  /-- 0xCB 0x24 SLA H (R412). -/
  | slaH
  /-- 0xCB 0x25 SLA L (R412). -/
  | slaL
  /-- 0xCB 0x26 SLA (HL) (R413). -/
  | slaAtHL
  /-- 0xCB 0x27 SLA A (R412). -/
  | slaA
  /-- 0xCB 0x28 SRA B (R414). -/
  | sraB
  /-- 0xCB 0x29 SRA C (R414). -/
  | sraC
  /-- 0xCB 0x2A SRA D (R414). -/
  | sraD
  /-- 0xCB 0x2B SRA E (R414). -/
  | sraE
  /-- 0xCB 0x2C SRA H (R414). -/
  | sraH
  /-- 0xCB 0x2D SRA L (R414). -/
  | sraL
  /-- 0xCB 0x2E SRA (HL) (R415). -/
  | sraAtHL
  /-- 0xCB 0x2F SRA A (R414). -/
  | sraA
  /-- 0xCB 0x30 SWAP B (R416). -/
  | swapB
  /-- 0xCB 0x31 SWAP C (R416). -/
  | swapC
  /-- 0xCB 0x32 SWAP D (R416). -/
  | swapD
  /-- 0xCB 0x33 SWAP E (R416). -/
  | swapE
  /-- 0xCB 0x34 SWAP H (R416). -/
  | swapH
  /-- 0xCB 0x35 SWAP L (R416). -/
  | swapL
  /-- 0xCB 0x36 SWAP (HL) (R417). -/
  | swapAtHL
  /-- 0xCB 0x37 SWAP A (R416). -/
  | swapA
  /-- 0xCB 0x38 SRL B (R418). -/
  | srlB
  /-- 0xCB 0x39 SRL C (R418). -/
  | srlC
  /-- 0xCB 0x3A SRL D (R418). -/
  | srlD
  /-- 0xCB 0x3B SRL E (R418). -/
  | srlE
  /-- 0xCB 0x3C SRL H (R418). -/
  | srlH
  /-- 0xCB 0x3D SRL L (R418). -/
  | srlL
  /-- 0xCB 0x3E SRL (HL) (R419). -/
  | srlAtHL
  /-- 0xCB 0x3F SRL A (R418). -/
  | srlA
  /-- 0xCB 0x40 BIT 0, B (R420). -/
  | bit0B
  /-- 0xCB 0x41 BIT 0, C (R420). -/
  | bit0C
  /-- 0xCB 0x42 BIT 0, D (R420). -/
  | bit0D
  /-- 0xCB 0x43 BIT 0, E (R420). -/
  | bit0E
  /-- 0xCB 0x44 BIT 0, H (R420). -/
  | bit0H
  /-- 0xCB 0x45 BIT 0, L (R420). -/
  | bit0L
  /-- 0xCB 0x46 BIT 0, (HL) (R421). -/
  | bit0AtHL
  /-- 0xCB 0x47 BIT 0, A (R420). -/
  | bit0A
  /-- 0xCB 0x48 BIT 1, B (R420). -/
  | bit1B
  /-- 0xCB 0x49 BIT 1, C (R420). -/
  | bit1C
  /-- 0xCB 0x4A BIT 1, D (R420). -/
  | bit1D
  /-- 0xCB 0x4B BIT 1, E (R420). -/
  | bit1E
  /-- 0xCB 0x4C BIT 1, H (R420). -/
  | bit1H
  /-- 0xCB 0x4D BIT 1, L (R420). -/
  | bit1L
  /-- 0xCB 0x4E BIT 1, (HL) (R421). -/
  | bit1AtHL
  /-- 0xCB 0x4F BIT 1, A (R420). -/
  | bit1A
  /-- 0xCB 0x50 BIT 2, B (R420). -/
  | bit2B
  /-- 0xCB 0x51 BIT 2, C (R420). -/
  | bit2C
  /-- 0xCB 0x52 BIT 2, D (R420). -/
  | bit2D
  /-- 0xCB 0x53 BIT 2, E (R420). -/
  | bit2E
  /-- 0xCB 0x54 BIT 2, H (R420). -/
  | bit2H
  /-- 0xCB 0x55 BIT 2, L (R420). -/
  | bit2L
  /-- 0xCB 0x56 BIT 2, (HL) (R421). -/
  | bit2AtHL
  /-- 0xCB 0x57 BIT 2, A (R420). -/
  | bit2A
  /-- 0xCB 0x58 BIT 3, B (R420). -/
  | bit3B
  /-- 0xCB 0x59 BIT 3, C (R420). -/
  | bit3C
  /-- 0xCB 0x5A BIT 3, D (R420). -/
  | bit3D
  /-- 0xCB 0x5B BIT 3, E (R420). -/
  | bit3E
  /-- 0xCB 0x5C BIT 3, H (R420). -/
  | bit3H
  /-- 0xCB 0x5D BIT 3, L (R420). -/
  | bit3L
  /-- 0xCB 0x5E BIT 3, (HL) (R421). -/
  | bit3AtHL
  /-- 0xCB 0x5F BIT 3, A (R420). -/
  | bit3A
  /-- 0xCB 0x60 BIT 4, B (R420). -/
  | bit4B
  /-- 0xCB 0x61 BIT 4, C (R420). -/
  | bit4C
  /-- 0xCB 0x62 BIT 4, D (R420). -/
  | bit4D
  /-- 0xCB 0x63 BIT 4, E (R420). -/
  | bit4E
  /-- 0xCB 0x64 BIT 4, H (R420). -/
  | bit4H
  /-- 0xCB 0x65 BIT 4, L (R420). -/
  | bit4L
  /-- 0xCB 0x66 BIT 4, (HL) (R421). -/
  | bit4AtHL
  /-- 0xCB 0x67 BIT 4, A (R420). -/
  | bit4A
  /-- 0xCB 0x68 BIT 5, B (R420). -/
  | bit5B
  /-- 0xCB 0x69 BIT 5, C (R420). -/
  | bit5C
  /-- 0xCB 0x6A BIT 5, D (R420). -/
  | bit5D
  /-- 0xCB 0x6B BIT 5, E (R420). -/
  | bit5E
  /-- 0xCB 0x6C BIT 5, H (R420). -/
  | bit5H
  /-- 0xCB 0x6D BIT 5, L (R420). -/
  | bit5L
  /-- 0xCB 0x6E BIT 5, (HL) (R421). -/
  | bit5AtHL
  /-- 0xCB 0x6F BIT 5, A (R420). -/
  | bit5A
  /-- 0xCB 0x70 BIT 6, B (R420). -/
  | bit6B
  /-- 0xCB 0x71 BIT 6, C (R420). -/
  | bit6C
  /-- 0xCB 0x72 BIT 6, D (R420). -/
  | bit6D
  /-- 0xCB 0x73 BIT 6, E (R420). -/
  | bit6E
  /-- 0xCB 0x74 BIT 6, H (R420). -/
  | bit6H
  /-- 0xCB 0x75 BIT 6, L (R420). -/
  | bit6L
  /-- 0xCB 0x76 BIT 6, (HL) (R421). -/
  | bit6AtHL
  /-- 0xCB 0x77 BIT 6, A (R420). -/
  | bit6A
  /-- 0xCB 0x78 BIT 7, B (R420). -/
  | bit7B
  /-- 0xCB 0x79 BIT 7, C (R420). -/
  | bit7C
  /-- 0xCB 0x7A BIT 7, D (R420). -/
  | bit7D
  /-- 0xCB 0x7B BIT 7, E (R420). -/
  | bit7E
  /-- 0xCB 0x7C BIT 7, H (R420). -/
  | bit7H
  /-- 0xCB 0x7D BIT 7, L (R420). -/
  | bit7L
  /-- 0xCB 0x7E BIT 7, (HL) (R421). -/
  | bit7AtHL
  /-- 0xCB 0x7F BIT 7, A (R420). -/
  | bit7A
  /-- 0xCB 0x80 RES 0, B (R422). -/
  | res0B
  /-- 0xCB 0x81 RES 0, C (R422). -/
  | res0C
  /-- 0xCB 0x82 RES 0, D (R422). -/
  | res0D
  /-- 0xCB 0x83 RES 0, E (R422). -/
  | res0E
  /-- 0xCB 0x84 RES 0, H (R422). -/
  | res0H
  /-- 0xCB 0x85 RES 0, L (R422). -/
  | res0L
  /-- 0xCB 0x86 RES 0, (HL) (R423). -/
  | res0AtHL
  /-- 0xCB 0x87 RES 0, A (R422). -/
  | res0A
  /-- 0xCB 0x88 RES 1, B (R422). -/
  | res1B
  /-- 0xCB 0x89 RES 1, C (R422). -/
  | res1C
  /-- 0xCB 0x8A RES 1, D (R422). -/
  | res1D
  /-- 0xCB 0x8B RES 1, E (R422). -/
  | res1E
  /-- 0xCB 0x8C RES 1, H (R422). -/
  | res1H
  /-- 0xCB 0x8D RES 1, L (R422). -/
  | res1L
  /-- 0xCB 0x8E RES 1, (HL) (R423). -/
  | res1AtHL
  /-- 0xCB 0x8F RES 1, A (R422). -/
  | res1A
  /-- 0xCB 0x90 RES 2, B (R422). -/
  | res2B
  /-- 0xCB 0x91 RES 2, C (R422). -/
  | res2C
  /-- 0xCB 0x92 RES 2, D (R422). -/
  | res2D
  /-- 0xCB 0x93 RES 2, E (R422). -/
  | res2E
  /-- 0xCB 0x94 RES 2, H (R422). -/
  | res2H
  /-- 0xCB 0x95 RES 2, L (R422). -/
  | res2L
  /-- 0xCB 0x96 RES 2, (HL) (R423). -/
  | res2AtHL
  /-- 0xCB 0x97 RES 2, A (R422). -/
  | res2A
  /-- 0xCB 0x98 RES 3, B (R422). -/
  | res3B
  /-- 0xCB 0x99 RES 3, C (R422). -/
  | res3C
  /-- 0xCB 0x9A RES 3, D (R422). -/
  | res3D
  /-- 0xCB 0x9B RES 3, E (R422). -/
  | res3E
  /-- 0xCB 0x9C RES 3, H (R422). -/
  | res3H
  /-- 0xCB 0x9D RES 3, L (R422). -/
  | res3L
  /-- 0xCB 0x9E RES 3, (HL) (R423). -/
  | res3AtHL
  /-- 0xCB 0x9F RES 3, A (R422). -/
  | res3A
  /-- 0xCB 0xA0 RES 4, B (R422). -/
  | res4B
  /-- 0xCB 0xA1 RES 4, C (R422). -/
  | res4C
  /-- 0xCB 0xA2 RES 4, D (R422). -/
  | res4D
  /-- 0xCB 0xA3 RES 4, E (R422). -/
  | res4E
  /-- 0xCB 0xA4 RES 4, H (R422). -/
  | res4H
  /-- 0xCB 0xA5 RES 4, L (R422). -/
  | res4L
  /-- 0xCB 0xA6 RES 4, (HL) (R423). -/
  | res4AtHL
  /-- 0xCB 0xA7 RES 4, A (R422). -/
  | res4A
  /-- 0xCB 0xA8 RES 5, B (R422). -/
  | res5B
  /-- 0xCB 0xA9 RES 5, C (R422). -/
  | res5C
  /-- 0xCB 0xAA RES 5, D (R422). -/
  | res5D
  /-- 0xCB 0xAB RES 5, E (R422). -/
  | res5E
  /-- 0xCB 0xAC RES 5, H (R422). -/
  | res5H
  /-- 0xCB 0xAD RES 5, L (R422). -/
  | res5L
  /-- 0xCB 0xAE RES 5, (HL) (R423). -/
  | res5AtHL
  /-- 0xCB 0xAF RES 5, A (R422). -/
  | res5A
  /-- 0xCB 0xB0 RES 6, B (R422). -/
  | res6B
  /-- 0xCB 0xB1 RES 6, C (R422). -/
  | res6C
  /-- 0xCB 0xB2 RES 6, D (R422). -/
  | res6D
  /-- 0xCB 0xB3 RES 6, E (R422). -/
  | res6E
  /-- 0xCB 0xB4 RES 6, H (R422). -/
  | res6H
  /-- 0xCB 0xB5 RES 6, L (R422). -/
  | res6L
  /-- 0xCB 0xB6 RES 6, (HL) (R423). -/
  | res6AtHL
  /-- 0xCB 0xB7 RES 6, A (R422). -/
  | res6A
  /-- 0xCB 0xB8 RES 7, B (R422). -/
  | res7B
  /-- 0xCB 0xB9 RES 7, C (R422). -/
  | res7C
  /-- 0xCB 0xBA RES 7, D (R422). -/
  | res7D
  /-- 0xCB 0xBB RES 7, E (R422). -/
  | res7E
  /-- 0xCB 0xBC RES 7, H (R422). -/
  | res7H
  /-- 0xCB 0xBD RES 7, L (R422). -/
  | res7L
  /-- 0xCB 0xBE RES 7, (HL) (R423). -/
  | res7AtHL
  /-- 0xCB 0xBF RES 7, A (R422). -/
  | res7A
  /-- 0xCB 0xC0 SET 0, B (R424). -/
  | set0B
  /-- 0xCB 0xC1 SET 0, C (R424). -/
  | set0C
  /-- 0xCB 0xC2 SET 0, D (R424). -/
  | set0D
  /-- 0xCB 0xC3 SET 0, E (R424). -/
  | set0E
  /-- 0xCB 0xC4 SET 0, H (R424). -/
  | set0H
  /-- 0xCB 0xC5 SET 0, L (R424). -/
  | set0L
  /-- 0xCB 0xC6 SET 0, (HL) (R425). -/
  | set0AtHL
  /-- 0xCB 0xC7 SET 0, A (R424). -/
  | set0A
  /-- 0xCB 0xC8 SET 1, B (R424). -/
  | set1B
  /-- 0xCB 0xC9 SET 1, C (R424). -/
  | set1C
  /-- 0xCB 0xCA SET 1, D (R424). -/
  | set1D
  /-- 0xCB 0xCB SET 1, E (R424). -/
  | set1E
  /-- 0xCB 0xCC SET 1, H (R424). -/
  | set1H
  /-- 0xCB 0xCD SET 1, L (R424). -/
  | set1L
  /-- 0xCB 0xCE SET 1, (HL) (R425). -/
  | set1AtHL
  /-- 0xCB 0xCF SET 1, A (R424). -/
  | set1A
  /-- 0xCB 0xD0 SET 2, B (R424). -/
  | set2B
  /-- 0xCB 0xD1 SET 2, C (R424). -/
  | set2C
  /-- 0xCB 0xD2 SET 2, D (R424). -/
  | set2D
  /-- 0xCB 0xD3 SET 2, E (R424). -/
  | set2E
  /-- 0xCB 0xD4 SET 2, H (R424). -/
  | set2H
  /-- 0xCB 0xD5 SET 2, L (R424). -/
  | set2L
  /-- 0xCB 0xD6 SET 2, (HL) (R425). -/
  | set2AtHL
  /-- 0xCB 0xD7 SET 2, A (R424). -/
  | set2A
  /-- 0xCB 0xD8 SET 3, B (R424). -/
  | set3B
  /-- 0xCB 0xD9 SET 3, C (R424). -/
  | set3C
  /-- 0xCB 0xDA SET 3, D (R424). -/
  | set3D
  /-- 0xCB 0xDB SET 3, E (R424). -/
  | set3E
  /-- 0xCB 0xDC SET 3, H (R424). -/
  | set3H
  /-- 0xCB 0xDD SET 3, L (R424). -/
  | set3L
  /-- 0xCB 0xDE SET 3, (HL) (R425). -/
  | set3AtHL
  /-- 0xCB 0xDF SET 3, A (R424). -/
  | set3A
  /-- 0xCB 0xE0 SET 4, B (R424). -/
  | set4B
  /-- 0xCB 0xE1 SET 4, C (R424). -/
  | set4C
  /-- 0xCB 0xE2 SET 4, D (R424). -/
  | set4D
  /-- 0xCB 0xE3 SET 4, E (R424). -/
  | set4E
  /-- 0xCB 0xE4 SET 4, H (R424). -/
  | set4H
  /-- 0xCB 0xE5 SET 4, L (R424). -/
  | set4L
  /-- 0xCB 0xE6 SET 4, (HL) (R425). -/
  | set4AtHL
  /-- 0xCB 0xE7 SET 4, A (R424). -/
  | set4A
  /-- 0xCB 0xE8 SET 5, B (R424). -/
  | set5B
  /-- 0xCB 0xE9 SET 5, C (R424). -/
  | set5C
  /-- 0xCB 0xEA SET 5, D (R424). -/
  | set5D
  /-- 0xCB 0xEB SET 5, E (R424). -/
  | set5E
  /-- 0xCB 0xEC SET 5, H (R424). -/
  | set5H
  /-- 0xCB 0xED SET 5, L (R424). -/
  | set5L
  /-- 0xCB 0xEE SET 5, (HL) (R425). -/
  | set5AtHL
  /-- 0xCB 0xEF SET 5, A (R424). -/
  | set5A
  /-- 0xCB 0xF0 SET 6, B (R424). -/
  | set6B
  /-- 0xCB 0xF1 SET 6, C (R424). -/
  | set6C
  /-- 0xCB 0xF2 SET 6, D (R424). -/
  | set6D
  /-- 0xCB 0xF3 SET 6, E (R424). -/
  | set6E
  /-- 0xCB 0xF4 SET 6, H (R424). -/
  | set6H
  /-- 0xCB 0xF5 SET 6, L (R424). -/
  | set6L
  /-- 0xCB 0xF6 SET 6, (HL) (R425). -/
  | set6AtHL
  /-- 0xCB 0xF7 SET 6, A (R424). -/
  | set6A
  /-- 0xCB 0xF8 SET 7, B (R424). -/
  | set7B
  /-- 0xCB 0xF9 SET 7, C (R424). -/
  | set7C
  /-- 0xCB 0xFA SET 7, D (R424). -/
  | set7D
  /-- 0xCB 0xFB SET 7, E (R424). -/
  | set7E
  /-- 0xCB 0xFC SET 7, H (R424). -/
  | set7H
  /-- 0xCB 0xFD SET 7, L (R424). -/
  | set7L
  /-- 0xCB 0xFE SET 7, (HL) (R425). -/
  | set7AtHL
  /-- 0xCB 0xFF SET 7, A (R424). -/
  | set7A
  deriving DecidableEq, Repr

namespace Instr

/-- `LD r, r'` (R300): destination, source. -/
def ldReg : Reg8 → Reg8 → Instr
  | .b, .b => .ldBB
  | .b, .c => .ldBC
  | .b, .d => .ldBD
  | .b, .e => .ldBE
  | .b, .h => .ldBH
  | .b, .l => .ldBL
  | .b, .a => .ldBA
  | .c, .b => .ldCB
  | .c, .c => .ldCC
  | .c, .d => .ldCD
  | .c, .e => .ldCE
  | .c, .h => .ldCH
  | .c, .l => .ldCL
  | .c, .a => .ldCA
  | .d, .b => .ldDB
  | .d, .c => .ldDC
  | .d, .d => .ldDD
  | .d, .e => .ldDE
  | .d, .h => .ldDH
  | .d, .l => .ldDL
  | .d, .a => .ldDA
  | .e, .b => .ldEB
  | .e, .c => .ldEC
  | .e, .d => .ldED
  | .e, .e => .ldEE
  | .e, .h => .ldEH
  | .e, .l => .ldEL
  | .e, .a => .ldEA
  | .h, .b => .ldHB
  | .h, .c => .ldHC
  | .h, .d => .ldHD
  | .h, .e => .ldHE
  | .h, .h => .ldHH
  | .h, .l => .ldHL
  | .h, .a => .ldHA
  | .l, .b => .ldLB
  | .l, .c => .ldLC
  | .l, .d => .ldLD
  | .l, .e => .ldLE
  | .l, .h => .ldLH
  | .l, .l => .ldLL
  | .l, .a => .ldLA
  | .a, .b => .ldAB
  | .a, .c => .ldAC
  | .a, .d => .ldAD
  | .a, .e => .ldAE
  | .a, .h => .ldAH
  | .a, .l => .ldAL
  | .a, .a => .ldAA

/-- `LD r, d8` (R301). -/
def ldImm : Reg8 → Byte → Instr
  | .b, n => .ldBd8 n
  | .c, n => .ldCd8 n
  | .d, n => .ldDd8 n
  | .e, n => .ldEd8 n
  | .h, n => .ldHd8 n
  | .l, n => .ldLd8 n
  | .a, n => .ldAd8 n

/-- `LD r, (HL)` (R302). -/
def ldFromHL : Reg8 → Instr
  | .b => .ldBAtHL
  | .c => .ldCAtHL
  | .d => .ldDAtHL
  | .e => .ldEAtHL
  | .h => .ldHAtHL
  | .l => .ldLAtHL
  | .a => .ldAAtHL

/-- `LD (HL), r` (R303). -/
def ldToHL : Reg8 → Instr
  | .b => .ldAtHLB
  | .c => .ldAtHLC
  | .d => .ldAtHLD
  | .e => .ldAtHLE
  | .h => .ldAtHLH
  | .l => .ldAtHLL
  | .a => .ldAtHLA

/-- The register form of an ALU operation on A (R345): operation, source. -/
def aluReg : AluOp → Reg8 → Instr
  | .add, .b => .addAB
  | .add, .c => .addAC
  | .add, .d => .addAD
  | .add, .e => .addAE
  | .add, .h => .addAH
  | .add, .l => .addAL
  | .add, .a => .addAA
  | .adc, .b => .adcAB
  | .adc, .c => .adcAC
  | .adc, .d => .adcAD
  | .adc, .e => .adcAE
  | .adc, .h => .adcAH
  | .adc, .l => .adcAL
  | .adc, .a => .adcAA
  | .sub, .b => .subB
  | .sub, .c => .subC
  | .sub, .d => .subD
  | .sub, .e => .subE
  | .sub, .h => .subH
  | .sub, .l => .subL
  | .sub, .a => .subA
  | .sbc, .b => .sbcAB
  | .sbc, .c => .sbcAC
  | .sbc, .d => .sbcAD
  | .sbc, .e => .sbcAE
  | .sbc, .h => .sbcAH
  | .sbc, .l => .sbcAL
  | .sbc, .a => .sbcAA
  | .and, .b => .andB
  | .and, .c => .andC
  | .and, .d => .andD
  | .and, .e => .andE
  | .and, .h => .andH
  | .and, .l => .andL
  | .and, .a => .andA
  | .xor, .b => .xorB
  | .xor, .c => .xorC
  | .xor, .d => .xorD
  | .xor, .e => .xorE
  | .xor, .h => .xorH
  | .xor, .l => .xorL
  | .xor, .a => .xorA
  | .or, .b => .orB
  | .or, .c => .orC
  | .or, .d => .orD
  | .or, .e => .orE
  | .or, .h => .orH
  | .or, .l => .orL
  | .or, .a => .orA
  | .cp, .b => .cpB
  | .cp, .c => .cpC
  | .cp, .d => .cpD
  | .cp, .e => .cpE
  | .cp, .h => .cpH
  | .cp, .l => .cpL
  | .cp, .a => .cpA

/-- The (HL) form of an ALU operation on A (R345). -/
def aluHL : AluOp → Instr
  | .add => .addAAtHL
  | .adc => .adcAAtHL
  | .sub => .subAtHL
  | .sbc => .sbcAAtHL
  | .and => .andAtHL
  | .xor => .xorAtHL
  | .or => .orAtHL
  | .cp => .cpAtHL

/-- The immediate form of an ALU operation on A (R345). -/
def aluImm : AluOp → Byte → Instr
  | .add, n => .addAd8 n
  | .adc, n => .adcAd8 n
  | .sub, n => .subd8 n
  | .sbc, n => .sbcAd8 n
  | .and, n => .andd8 n
  | .xor, n => .xord8 n
  | .or, n => .ord8 n
  | .cp, n => .cpd8 n

/-- `INC r` (R374). -/
def incReg : Reg8 → Instr
  | .b => .incB
  | .c => .incC
  | .d => .incD
  | .e => .incE
  | .h => .incH
  | .l => .incL
  | .a => .incA

/-- `DEC r` (R376). -/
def decReg : Reg8 → Instr
  | .b => .decB
  | .c => .decC
  | .d => .decD
  | .e => .decE
  | .h => .decH
  | .l => .decL
  | .a => .decA

/-- `LD rr, d16` (R330). -/
def ldPairImm : Pair → Word → Instr
  | .bc, v => .ldBCd16 v
  | .de, v => .ldDEd16 v
  | .hl, v => .ldHLd16 v
  | .sp, v => .ldSPd16 v

/-- `INC rr` (R391). -/
def incPair : Pair → Instr
  | .bc => .incBC
  | .de => .incDE
  | .hl => .incHL
  | .sp => .incSP

/-- `DEC rr` (R392). -/
def decPair : Pair → Instr
  | .bc => .decBC
  | .de => .decDE
  | .hl => .decHL
  | .sp => .decSP

/-- `ADD HL, rr` (R390). -/
def addHL : Pair → Instr
  | .bc => .addHLBC
  | .de => .addHLDE
  | .hl => .addHLHL
  | .sp => .addHLSP

/-- `PUSH rr` (R334) and `PUSH AF` (R336). -/
def push : StackPair → Instr
  | .bc => .pushBC
  | .de => .pushDE
  | .hl => .pushHL
  | .af => .pushAF

/-- `POP rr` (R337) and `POP AF` (R338). -/
def pop : StackPair → Instr
  | .bc => .popBC
  | .de => .popDE
  | .hl => .popHL
  | .af => .popAF

/-- `JR cc, e8` (R454). -/
def jrIf : Cond → Byte → Instr
  | .nz, e => .jrNZ e
  | .z, e => .jrZ e
  | .nc, e => .jrNC e
  | .c, e => .jrC e

/-- `JP cc, a16` (R451). -/
def jpIf : Cond → Word → Instr
  | .nz, t => .jpNZ t
  | .z, t => .jpZ t
  | .nc, t => .jpNC t
  | .c, t => .jpC t

/-- `CALL cc, a16` (R456). -/
def callIf : Cond → Word → Instr
  | .nz, t => .callNZ t
  | .z, t => .callZ t
  | .nc, t => .callNC t
  | .c, t => .callC t

/-- `RET cc` (R458). -/
def retIf : Cond → Instr
  | .nz => .retNZ
  | .z => .retZ
  | .nc => .retNC
  | .c => .retC

/-- `RST 8*y` (R462). -/
def rst : Fin 8 → Instr
  | 0 => .rst00
  | 1 => .rst08
  | 2 => .rst10
  | 3 => .rst18
  | 4 => .rst20
  | 5 => .rst28
  | 6 => .rst30
  | 7 => .rst38

/-- The illegal opcodes (R486). -/
def illegal : IllegalOp → Instr
  | .d3 => .illegalD3
  | .db => .illegalDB
  | .dd => .illegalDD
  | .e3 => .illegalE3
  | .e4 => .illegalE4
  | .eb => .illegalEB
  | .ec => .illegalEC
  | .ed => .illegalED
  | .f4 => .illegalF4
  | .fc => .illegalFC
  | .fd => .illegalFD

/-- A prefixed rotate or shift of a register (R404-R418). -/
def rotReg : RotOp → Reg8 → Instr
  | .rlc, .b => .rlcB
  | .rlc, .c => .rlcC
  | .rlc, .d => .rlcD
  | .rlc, .e => .rlcE
  | .rlc, .h => .rlcH
  | .rlc, .l => .rlcL
  | .rlc, .a => .rlcA
  | .rrc, .b => .rrcB
  | .rrc, .c => .rrcC
  | .rrc, .d => .rrcD
  | .rrc, .e => .rrcE
  | .rrc, .h => .rrcH
  | .rrc, .l => .rrcL
  | .rrc, .a => .rrcA
  | .rl, .b => .rlB
  | .rl, .c => .rlC
  | .rl, .d => .rlD
  | .rl, .e => .rlE
  | .rl, .h => .rlH
  | .rl, .l => .rlL
  | .rl, .a => .rlA
  | .rr, .b => .rrB
  | .rr, .c => .rrC
  | .rr, .d => .rrD
  | .rr, .e => .rrE
  | .rr, .h => .rrH
  | .rr, .l => .rrL
  | .rr, .a => .rrA
  | .sla, .b => .slaB
  | .sla, .c => .slaC
  | .sla, .d => .slaD
  | .sla, .e => .slaE
  | .sla, .h => .slaH
  | .sla, .l => .slaL
  | .sla, .a => .slaA
  | .sra, .b => .sraB
  | .sra, .c => .sraC
  | .sra, .d => .sraD
  | .sra, .e => .sraE
  | .sra, .h => .sraH
  | .sra, .l => .sraL
  | .sra, .a => .sraA
  | .swap, .b => .swapB
  | .swap, .c => .swapC
  | .swap, .d => .swapD
  | .swap, .e => .swapE
  | .swap, .h => .swapH
  | .swap, .l => .swapL
  | .swap, .a => .swapA
  | .srl, .b => .srlB
  | .srl, .c => .srlC
  | .srl, .d => .srlD
  | .srl, .e => .srlE
  | .srl, .h => .srlH
  | .srl, .l => .srlL
  | .srl, .a => .srlA

/-- A prefixed rotate or shift of the byte at HL (R405-R419). -/
def rotHL : RotOp → Instr
  | .rlc => .rlcAtHL
  | .rrc => .rrcAtHL
  | .rl => .rlAtHL
  | .rr => .rrAtHL
  | .sla => .slaAtHL
  | .sra => .sraAtHL
  | .swap => .swapAtHL
  | .srl => .srlAtHL

/-- `BIT b, r` (R420). -/
def bitReg : Fin 8 → Reg8 → Instr
  | 0, .b => .bit0B
  | 0, .c => .bit0C
  | 0, .d => .bit0D
  | 0, .e => .bit0E
  | 0, .h => .bit0H
  | 0, .l => .bit0L
  | 0, .a => .bit0A
  | 1, .b => .bit1B
  | 1, .c => .bit1C
  | 1, .d => .bit1D
  | 1, .e => .bit1E
  | 1, .h => .bit1H
  | 1, .l => .bit1L
  | 1, .a => .bit1A
  | 2, .b => .bit2B
  | 2, .c => .bit2C
  | 2, .d => .bit2D
  | 2, .e => .bit2E
  | 2, .h => .bit2H
  | 2, .l => .bit2L
  | 2, .a => .bit2A
  | 3, .b => .bit3B
  | 3, .c => .bit3C
  | 3, .d => .bit3D
  | 3, .e => .bit3E
  | 3, .h => .bit3H
  | 3, .l => .bit3L
  | 3, .a => .bit3A
  | 4, .b => .bit4B
  | 4, .c => .bit4C
  | 4, .d => .bit4D
  | 4, .e => .bit4E
  | 4, .h => .bit4H
  | 4, .l => .bit4L
  | 4, .a => .bit4A
  | 5, .b => .bit5B
  | 5, .c => .bit5C
  | 5, .d => .bit5D
  | 5, .e => .bit5E
  | 5, .h => .bit5H
  | 5, .l => .bit5L
  | 5, .a => .bit5A
  | 6, .b => .bit6B
  | 6, .c => .bit6C
  | 6, .d => .bit6D
  | 6, .e => .bit6E
  | 6, .h => .bit6H
  | 6, .l => .bit6L
  | 6, .a => .bit6A
  | 7, .b => .bit7B
  | 7, .c => .bit7C
  | 7, .d => .bit7D
  | 7, .e => .bit7E
  | 7, .h => .bit7H
  | 7, .l => .bit7L
  | 7, .a => .bit7A

/-- `BIT b, (HL)` (R421). -/
def bitHL : Fin 8 → Instr
  | 0 => .bit0AtHL
  | 1 => .bit1AtHL
  | 2 => .bit2AtHL
  | 3 => .bit3AtHL
  | 4 => .bit4AtHL
  | 5 => .bit5AtHL
  | 6 => .bit6AtHL
  | 7 => .bit7AtHL

/-- `RES b, r` (R422). -/
def resReg : Fin 8 → Reg8 → Instr
  | 0, .b => .res0B
  | 0, .c => .res0C
  | 0, .d => .res0D
  | 0, .e => .res0E
  | 0, .h => .res0H
  | 0, .l => .res0L
  | 0, .a => .res0A
  | 1, .b => .res1B
  | 1, .c => .res1C
  | 1, .d => .res1D
  | 1, .e => .res1E
  | 1, .h => .res1H
  | 1, .l => .res1L
  | 1, .a => .res1A
  | 2, .b => .res2B
  | 2, .c => .res2C
  | 2, .d => .res2D
  | 2, .e => .res2E
  | 2, .h => .res2H
  | 2, .l => .res2L
  | 2, .a => .res2A
  | 3, .b => .res3B
  | 3, .c => .res3C
  | 3, .d => .res3D
  | 3, .e => .res3E
  | 3, .h => .res3H
  | 3, .l => .res3L
  | 3, .a => .res3A
  | 4, .b => .res4B
  | 4, .c => .res4C
  | 4, .d => .res4D
  | 4, .e => .res4E
  | 4, .h => .res4H
  | 4, .l => .res4L
  | 4, .a => .res4A
  | 5, .b => .res5B
  | 5, .c => .res5C
  | 5, .d => .res5D
  | 5, .e => .res5E
  | 5, .h => .res5H
  | 5, .l => .res5L
  | 5, .a => .res5A
  | 6, .b => .res6B
  | 6, .c => .res6C
  | 6, .d => .res6D
  | 6, .e => .res6E
  | 6, .h => .res6H
  | 6, .l => .res6L
  | 6, .a => .res6A
  | 7, .b => .res7B
  | 7, .c => .res7C
  | 7, .d => .res7D
  | 7, .e => .res7E
  | 7, .h => .res7H
  | 7, .l => .res7L
  | 7, .a => .res7A

/-- `RES b, (HL)` (R423). -/
def resHL : Fin 8 → Instr
  | 0 => .res0AtHL
  | 1 => .res1AtHL
  | 2 => .res2AtHL
  | 3 => .res3AtHL
  | 4 => .res4AtHL
  | 5 => .res5AtHL
  | 6 => .res6AtHL
  | 7 => .res7AtHL

/-- `SET b, r` (R424). -/
def setReg : Fin 8 → Reg8 → Instr
  | 0, .b => .set0B
  | 0, .c => .set0C
  | 0, .d => .set0D
  | 0, .e => .set0E
  | 0, .h => .set0H
  | 0, .l => .set0L
  | 0, .a => .set0A
  | 1, .b => .set1B
  | 1, .c => .set1C
  | 1, .d => .set1D
  | 1, .e => .set1E
  | 1, .h => .set1H
  | 1, .l => .set1L
  | 1, .a => .set1A
  | 2, .b => .set2B
  | 2, .c => .set2C
  | 2, .d => .set2D
  | 2, .e => .set2E
  | 2, .h => .set2H
  | 2, .l => .set2L
  | 2, .a => .set2A
  | 3, .b => .set3B
  | 3, .c => .set3C
  | 3, .d => .set3D
  | 3, .e => .set3E
  | 3, .h => .set3H
  | 3, .l => .set3L
  | 3, .a => .set3A
  | 4, .b => .set4B
  | 4, .c => .set4C
  | 4, .d => .set4D
  | 4, .e => .set4E
  | 4, .h => .set4H
  | 4, .l => .set4L
  | 4, .a => .set4A
  | 5, .b => .set5B
  | 5, .c => .set5C
  | 5, .d => .set5D
  | 5, .e => .set5E
  | 5, .h => .set5H
  | 5, .l => .set5L
  | 5, .a => .set5A
  | 6, .b => .set6B
  | 6, .c => .set6C
  | 6, .d => .set6D
  | 6, .e => .set6E
  | 6, .h => .set6H
  | 6, .l => .set6L
  | 6, .a => .set6A
  | 7, .b => .set7B
  | 7, .c => .set7C
  | 7, .d => .set7D
  | 7, .e => .set7E
  | 7, .h => .set7H
  | 7, .l => .set7L
  | 7, .a => .set7A

/-- `SET b, (HL)` (R425). -/
def setHL : Fin 8 → Instr
  | 0 => .set0AtHL
  | 1 => .set1AtHL
  | 2 => .set2AtHL
  | 3 => .set3AtHL
  | 4 => .set4AtHL
  | 5 => .set5AtHL
  | 6 => .set6AtHL
  | 7 => .set7AtHL

end Instr

/-- The opcode byte of an illegal opcode (R486). -/
def IllegalOp.code : IllegalOp → Byte
  | .d3 => 0xD3
  | .db => 0xDB
  | .dd => 0xDD
  | .e3 => 0xE3
  | .e4 => 0xE4
  | .eb => 0xEB
  | .ec => 0xEC
  | .ed => 0xED
  | .f4 => 0xF4
  | .fc => 0xFC
  | .fd => 0xFD

end Sys2Proof
end

