-- ==== Sys2Proof/WellFormed.lean ====
section
/-! DEFINITION. Which terms of Instr are complete instructions. Every operand has the width its encoding gives it, so
the one thing left to check is that the term is an instruction at all: 0xCB alone is not (R211, R487). -/

namespace Sys2Proof

/-- A complete instruction: any row but the bare prefix 0xCB, which "is not an instruction by itself" (R211). -/
abbrev WellFormed (i : Instr) : Prop := i ≠ .prefixCb

end Sys2Proof
end

