-- ==== Sys2Proof/Decode.lean ====
section
/-! DEFINITION. Decoding (30_encoding.md R200-R211): total on any bytes, by the fields x, y, z, p, q of R201 and the
group tables R207 and R209; and, after it, the encoder, written from the opcode maps R208 and R209. No mode bit changes
decoding (R211). -/

namespace Sys2Proof

open Sys2Proof.Machine

/-- The register a 3-bit field `r` names; the value 6 names the byte at HL, not a register (R202). -/
def regOf (r : Nat) : Option Reg8 :=
  match r with
  | 0 => some .b
  | 1 => some .c
  | 2 => some .d
  | 3 => some .e
  | 4 => some .h
  | 5 => some .l
  | 6 => none
  | _ => some .a

/-- The pair a 2-bit field `p` names in table `rp` (R203). -/
def pairOf (p : Nat) : Pair :=
  match p with
  | 0 => .bc
  | 1 => .de
  | 2 => .hl
  | _ => .sp

/-- The pair a 2-bit field `p` names in table `rp2` (R203). -/
def stackPairOf (p : Nat) : StackPair :=
  match p with
  | 0 => .bc
  | 1 => .de
  | 2 => .hl
  | _ => .af

/-- The condition a 2-bit field names (R204). -/
def condOf (cc : Nat) : Cond :=
  match cc with
  | 0 => .nz
  | 1 => .z
  | 2 => .nc
  | _ => .c

/-- The ALU operation a 3-bit field y names (R205). -/
def aluOf (y : Nat) : AluOp :=
  match y with
  | 0 => .add
  | 1 => .adc
  | 2 => .sub
  | 3 => .sbc
  | 4 => .and
  | 5 => .xor
  | 6 => .or
  | _ => .cp

/-- The rotate or shift a 3-bit field y names in the CB map (R205). -/
def rotOf (y : Nat) : RotOp :=
  match y with
  | 0 => .rlc
  | 1 => .rrc
  | 2 => .rl
  | 3 => .rr
  | 4 => .sla
  | 5 => .sra
  | 6 => .swap
  | _ => .srl

/-- A bit number or RST index: a 3-bit field. -/
def fin8Of (y : Nat) : Fin 8 := ⟨y % 8, Nat.mod_lt _ (by decide)⟩

/-- The CB map (R209): the instruction the byte after 0xCB names. All 256 values are defined. -/
def decodeCb (op2 : Byte) : Instr :=
  let y := field op2 5 3
  match field op2 7 6, regOf (field op2 2 0) with
  | 0, some r => Instr.rotReg (rotOf y) r
  | 0, none => Instr.rotHL (rotOf y)
  | 1, some r => Instr.bitReg (fin8Of y) r
  | 1, none => Instr.bitHL (fin8Of y)
  | 2, some r => Instr.resReg (fin8Of y) r
  | 2, none => Instr.resHL (fin8Of y)
  | _, some r => Instr.setReg (fin8Of y) r
  | _, none => Instr.setHL (fin8Of y)

/-- Quarter x = 0 of the primary map (R207); `n` is the byte after the opcode, `v` the little-endian word after it. -/
def decodeX0 (y z : Nat) (n : Byte) (v : Word) : Instr :=
  let p := y / 2
  match z with
  | 0 =>
    match y with
    | 0 => .nop
    | 1 => .ldAtA16SP v
    | 2 => .stop n
    | 3 => .jr n
    | _ => Instr.jrIf (condOf (y - 4)) n
  | 1 => if y % 2 = 0 then Instr.ldPairImm (pairOf p) v else Instr.addHL (pairOf p)
  | 2 =>
    match y with
    | 0 => .ldAtBCA
    | 1 => .ldAAtBC
    | 2 => .ldAtDEA
    | 3 => .ldAAtDE
    | 4 => .ldAtHLIncA
    | 5 => .ldAAtHLInc
    | 6 => .ldAtHLDecA
    | _ => .ldAAtHLDec
  | 3 => if y % 2 = 0 then Instr.incPair (pairOf p) else Instr.decPair (pairOf p)
  | 4 => match regOf y with | some r => Instr.incReg r | none => .incAtHL
  | 5 => match regOf y with | some r => Instr.decReg r | none => .decAtHL
  | 6 => match regOf y with | some r => Instr.ldImm r n | none => .ldAtHLd8 n
  | _ =>
    match y with
    | 0 => .rlca
    | 1 => .rrca
    | 2 => .rla
    | 3 => .rra
    | 4 => .daa
    | 5 => .cpl
    | 6 => .scf
    | _ => .ccf

/-- Quarter x = 1 (R207): LD r[y], r[z], and HALT where both fields are 6. -/
def decodeX1 (y z : Nat) : Instr :=
  match regOf y, regOf z with
  | some dst, some src => Instr.ldReg dst src
  | some dst, none => Instr.ldFromHL dst
  | none, some src => Instr.ldToHL src
  | none, none => .halt

/-- Quarter x = 2 (R207): the ALU operation y on A and r[z]. -/
def decodeX2 (y z : Nat) : Instr :=
  match regOf z with
  | some src => Instr.aluReg (aluOf y) src
  | none => Instr.aluHL (aluOf y)

/-- Quarter x = 3 (R207), with the illegal opcodes of R210. -/
def decodeX3 (y z : Nat) (n : Byte) (v : Word) : Instr :=
  let p := y / 2
  match z with
  | 0 =>
    match y with
    | 4 => .ldhAtA8A n
    | 5 => .addSPe8 n
    | 6 => .ldhAAtA8 n
    | 7 => .ldHLSPe8 n
    | _ => Instr.retIf (condOf y)
  | 1 =>
    if y % 2 = 0 then Instr.pop (stackPairOf p)
    else match p with
      | 0 => .ret
      | 1 => .reti
      | 2 => .jpHL
      | _ => .ldSPHL
  | 2 =>
    match y with
    | 4 => .ldhAtCA
    | 5 => .ldAtA16A v
    | 6 => .ldhAAtC
    | 7 => .ldAAtA16 v
    | _ => Instr.jpIf (condOf y) v
  | 3 =>
    match y with
    | 0 => .jp v
    | 1 => decodeCb n
    | 2 => .illegalD3
    | 3 => .illegalDB
    | 4 => .illegalE3
    | 5 => .illegalEB
    | 6 => .di
    | _ => .ei
  | 4 =>
    match y with
    | 4 => .illegalE4
    | 5 => .illegalEC
    | 6 => .illegalF4
    | 7 => .illegalFC
    | _ => Instr.callIf (condOf y) v
  | 5 =>
    if y % 2 = 0 then Instr.push (stackPairOf p)
    else match p with
      | 0 => .call v
      | 1 => .illegalDD
      | 2 => .illegalED
      | _ => .illegalFD
  | 6 => Instr.aluImm (aluOf y) n
  | _ => Instr.rst (fin8Of y)

/-- The instruction whose opcode byte is `op` and whose following bytes are `b1` and `b2` (those of them its length
covers): the primary map R207, with the CB map R209 under the opcode 0xCB (R211). -/
def decodeBytes (op b1 b2 : Byte) : Instr :=
  let y := field op 5 3
  let z := field op 2 0
  let v := joinBytes b2 b1
  match field op 7 6 with
  | 0 => decodeX0 y z b1 v
  | 1 => decodeX1 y z
  | 2 => decodeX2 y z
  | _ => decodeX3 y z b1 v

/-- Opcodes with a one-byte operand (formats `op_d8`, `op_e8`, `op_a8`, `stop` and `cb` of R200). -/
def twoByteOpcodes : List Nat :=
  [0x06, 0x0E, 0x10, 0x16, 0x18, 0x1E, 0x20, 0x26, 0x28, 0x2E, 0x30, 0x36, 0x38, 0x3E, 0xC6, 0xCB,
   0xCE, 0xD6, 0xDE, 0xE0, 0xE6, 0xE8, 0xEE, 0xF0, 0xF6, 0xF8, 0xFE]

/-- Opcodes with a two-byte operand (formats `op_d16` and `op_a16` of R200). -/
def threeByteOpcodes : List Nat :=
  [0x01, 0x08, 0x11, 0x21, 0x31, 0xC2, 0xC3, 0xC4, 0xCA, 0xCC, 0xCD, 0xD2, 0xD4, 0xDA, 0xDC, 0xEA, 0xFA]

/-- The instruction length in bytes, told from the first byte alone (R200, field `length` of opcode_table.json). -/
def instrLength (op : Byte) : Nat :=
  if twoByteOpcodes.contains op.toNat then 2
  else if threeByteOpcodes.contains op.toNat then 3
  else 1

/-- Why a list of bytes is no instruction: there is none at all, or fewer than the length its opcode gives. -/
inductive DecodeError where
  /-- The list is empty. -/
  | noBytes
  /-- The opcode needs `need` bytes and the list has fewer; 0xCB alone is reported so (R211). -/
  | truncated (need : Nat)
  deriving DecidableEq, Repr

/-- Decode one instruction from a list of bytes, giving the rest of the list. Total: every list is either an
instruction and a rest or a named error. Every opcode byte decodes, the illegal ones to their own constructors. -/
def decode (bs : List Byte) : Except DecodeError (Instr × List Byte) :=
  match bs with
  | [] => .error .noBytes
  | op :: rest =>
    match instrLength op, rest with
    | 1, _ => .ok (decodeBytes op 0 0, rest)
    | 2, b1 :: rest1 => .ok (decodeBytes op b1 0, rest1)
    | 3, b1 :: b2 :: rest2 => .ok (decodeBytes op b1 b2, rest2)
    | n, _ => .error (.truncated n)

/-- The bytes of an instruction word whose bits are numbered as spec/opcode_table.json numbers them, followed by zero
bytes up to the longest instruction. A row of 16 bits is a CB row, and the table gives it as {byte1, byte2} with byte1
= 0xCB in bits 15:8 (spec/INDEX.md), so the first byte is the high one; a word whose high byte is not the prefix is
read low byte first (log 14). -/
def tableBytes (nbits w : Nat) : List Byte :=
  let b := fun (k : Nat) => BitVec.ofNat 8 (w / 2 ^ (8 * k))
  if nbits ≤ 8 then [b 0, 0, 0]
  else if nbits ≤ 16 then
    if b 1 = 0xCB then [b 1, b 0, 0] else [b 0, b 1, 0]
  else [b 0, b 1, b 2]

/-- What the decoder reads from the table word `w` of `nbits` bits. -/
def decodeTableWord (nbits w : Nat) : Option Instr :=
  match decode (tableBytes nbits w) with
  | .ok (i, _) => some i
  | .error _ => none

/-- The bytes of an instruction, from the maps R208 and R209; the immediate bytes follow the opcode, low byte first
(R206). The bare prefix gives its one byte. -/
def encode : Instr → List Byte
  | .nop => [0x00]
  | .ldBCd16 v => [0x01, loByte v, hiByte v]
  | .ldAtBCA => [0x02]
  | .incBC => [0x03]
  | .incB => [0x04]
  | .decB => [0x05]
  | .ldBd8 n => [0x06, n]
  | .rlca => [0x07]
  | .ldAtA16SP t => [0x08, loByte t, hiByte t]
  | .addHLBC => [0x09]
  | .ldAAtBC => [0x0A]
  | .decBC => [0x0B]
  | .incC => [0x0C]
  | .decC => [0x0D]
  | .ldCd8 n => [0x0E, n]
  | .rrca => [0x0F]
  | .stop n => [0x10, n]
  | .ldDEd16 v => [0x11, loByte v, hiByte v]
  | .ldAtDEA => [0x12]
  | .incDE => [0x13]
  | .incD => [0x14]
  | .decD => [0x15]
  | .ldDd8 n => [0x16, n]
  | .rla => [0x17]
  | .jr e => [0x18, e]
  | .addHLDE => [0x19]
  | .ldAAtDE => [0x1A]
  | .decDE => [0x1B]
  | .incE => [0x1C]
  | .decE => [0x1D]
  | .ldEd8 n => [0x1E, n]
  | .rra => [0x1F]
  | .jrNZ e => [0x20, e]
  | .ldHLd16 v => [0x21, loByte v, hiByte v]
  | .ldAtHLIncA => [0x22]
  | .incHL => [0x23]
  | .incH => [0x24]
  | .decH => [0x25]
  | .ldHd8 n => [0x26, n]
  | .daa => [0x27]
  | .jrZ e => [0x28, e]
  | .addHLHL => [0x29]
  | .ldAAtHLInc => [0x2A]
  | .decHL => [0x2B]
  | .incL => [0x2C]
  | .decL => [0x2D]
  | .ldLd8 n => [0x2E, n]
  | .cpl => [0x2F]
  | .jrNC e => [0x30, e]
  | .ldSPd16 v => [0x31, loByte v, hiByte v]
  | .ldAtHLDecA => [0x32]
  | .incSP => [0x33]
  | .incAtHL => [0x34]
  | .decAtHL => [0x35]
  | .ldAtHLd8 n => [0x36, n]
  | .scf => [0x37]
  | .jrC e => [0x38, e]
  | .addHLSP => [0x39]
  | .ldAAtHLDec => [0x3A]
  | .decSP => [0x3B]
  | .incA => [0x3C]
  | .decA => [0x3D]
  | .ldAd8 n => [0x3E, n]
  | .ccf => [0x3F]
  | .ldBB => [0x40]
  | .ldBC => [0x41]
  | .ldBD => [0x42]
  | .ldBE => [0x43]
  | .ldBH => [0x44]
  | .ldBL => [0x45]
  | .ldBAtHL => [0x46]
  | .ldBA => [0x47]
  | .ldCB => [0x48]
  | .ldCC => [0x49]
  | .ldCD => [0x4A]
  | .ldCE => [0x4B]
  | .ldCH => [0x4C]
  | .ldCL => [0x4D]
  | .ldCAtHL => [0x4E]
  | .ldCA => [0x4F]
  | .ldDB => [0x50]
  | .ldDC => [0x51]
  | .ldDD => [0x52]
  | .ldDE => [0x53]
  | .ldDH => [0x54]
  | .ldDL => [0x55]
  | .ldDAtHL => [0x56]
  | .ldDA => [0x57]
  | .ldEB => [0x58]
  | .ldEC => [0x59]
  | .ldED => [0x5A]
  | .ldEE => [0x5B]
  | .ldEH => [0x5C]
  | .ldEL => [0x5D]
  | .ldEAtHL => [0x5E]
  | .ldEA => [0x5F]
  | .ldHB => [0x60]
  | .ldHC => [0x61]
  | .ldHD => [0x62]
  | .ldHE => [0x63]
  | .ldHH => [0x64]
  | .ldHL => [0x65]
  | .ldHAtHL => [0x66]
  | .ldHA => [0x67]
  | .ldLB => [0x68]
  | .ldLC => [0x69]
  | .ldLD => [0x6A]
  | .ldLE => [0x6B]
  | .ldLH => [0x6C]
  | .ldLL => [0x6D]
  | .ldLAtHL => [0x6E]
  | .ldLA => [0x6F]
  | .ldAtHLB => [0x70]
  | .ldAtHLC => [0x71]
  | .ldAtHLD => [0x72]
  | .ldAtHLE => [0x73]
  | .ldAtHLH => [0x74]
  | .ldAtHLL => [0x75]
  | .halt => [0x76]
  | .ldAtHLA => [0x77]
  | .ldAB => [0x78]
  | .ldAC => [0x79]
  | .ldAD => [0x7A]
  | .ldAE => [0x7B]
  | .ldAH => [0x7C]
  | .ldAL => [0x7D]
  | .ldAAtHL => [0x7E]
  | .ldAA => [0x7F]
  | .addAB => [0x80]
  | .addAC => [0x81]
  | .addAD => [0x82]
  | .addAE => [0x83]
  | .addAH => [0x84]
  | .addAL => [0x85]
  | .addAAtHL => [0x86]
  | .addAA => [0x87]
  | .adcAB => [0x88]
  | .adcAC => [0x89]
  | .adcAD => [0x8A]
  | .adcAE => [0x8B]
  | .adcAH => [0x8C]
  | .adcAL => [0x8D]
  | .adcAAtHL => [0x8E]
  | .adcAA => [0x8F]
  | .subB => [0x90]
  | .subC => [0x91]
  | .subD => [0x92]
  | .subE => [0x93]
  | .subH => [0x94]
  | .subL => [0x95]
  | .subAtHL => [0x96]
  | .subA => [0x97]
  | .sbcAB => [0x98]
  | .sbcAC => [0x99]
  | .sbcAD => [0x9A]
  | .sbcAE => [0x9B]
  | .sbcAH => [0x9C]
  | .sbcAL => [0x9D]
  | .sbcAAtHL => [0x9E]
  | .sbcAA => [0x9F]
  | .andB => [0xA0]
  | .andC => [0xA1]
  | .andD => [0xA2]
  | .andE => [0xA3]
  | .andH => [0xA4]
  | .andL => [0xA5]
  | .andAtHL => [0xA6]
  | .andA => [0xA7]
  | .xorB => [0xA8]
  | .xorC => [0xA9]
  | .xorD => [0xAA]
  | .xorE => [0xAB]
  | .xorH => [0xAC]
  | .xorL => [0xAD]
  | .xorAtHL => [0xAE]
  | .xorA => [0xAF]
  | .orB => [0xB0]
  | .orC => [0xB1]
  | .orD => [0xB2]
  | .orE => [0xB3]
  | .orH => [0xB4]
  | .orL => [0xB5]
  | .orAtHL => [0xB6]
  | .orA => [0xB7]
  | .cpB => [0xB8]
  | .cpC => [0xB9]
  | .cpD => [0xBA]
  | .cpE => [0xBB]
  | .cpH => [0xBC]
  | .cpL => [0xBD]
  | .cpAtHL => [0xBE]
  | .cpA => [0xBF]
  | .retNZ => [0xC0]
  | .popBC => [0xC1]
  | .jpNZ t => [0xC2, loByte t, hiByte t]
  | .jp t => [0xC3, loByte t, hiByte t]
  | .callNZ t => [0xC4, loByte t, hiByte t]
  | .pushBC => [0xC5]
  | .addAd8 n => [0xC6, n]
  | .rst00 => [0xC7]
  | .retZ => [0xC8]
  | .ret => [0xC9]
  | .jpZ t => [0xCA, loByte t, hiByte t]
  | .callZ t => [0xCC, loByte t, hiByte t]
  | .call t => [0xCD, loByte t, hiByte t]
  | .adcAd8 n => [0xCE, n]
  | .rst08 => [0xCF]
  | .retNC => [0xD0]
  | .popDE => [0xD1]
  | .jpNC t => [0xD2, loByte t, hiByte t]
  | .illegalD3 => [0xD3]
  | .callNC t => [0xD4, loByte t, hiByte t]
  | .pushDE => [0xD5]
  | .subd8 n => [0xD6, n]
  | .rst10 => [0xD7]
  | .retC => [0xD8]
  | .reti => [0xD9]
  | .jpC t => [0xDA, loByte t, hiByte t]
  | .illegalDB => [0xDB]
  | .callC t => [0xDC, loByte t, hiByte t]
  | .illegalDD => [0xDD]
  | .sbcAd8 n => [0xDE, n]
  | .rst18 => [0xDF]
  | .ldhAtA8A n => [0xE0, n]
  | .popHL => [0xE1]
  | .ldhAtCA => [0xE2]
  | .illegalE3 => [0xE3]
  | .illegalE4 => [0xE4]
  | .pushHL => [0xE5]
  | .andd8 n => [0xE6, n]
  | .rst20 => [0xE7]
  | .addSPe8 e => [0xE8, e]
  | .jpHL => [0xE9]
  | .ldAtA16A t => [0xEA, loByte t, hiByte t]
  | .illegalEB => [0xEB]
  | .illegalEC => [0xEC]
  | .illegalED => [0xED]
  | .xord8 n => [0xEE, n]
  | .rst28 => [0xEF]
  | .ldhAAtA8 n => [0xF0, n]
  | .popAF => [0xF1]
  | .ldhAAtC => [0xF2]
  | .di => [0xF3]
  | .illegalF4 => [0xF4]
  | .pushAF => [0xF5]
  | .ord8 n => [0xF6, n]
  | .rst30 => [0xF7]
  | .ldHLSPe8 e => [0xF8, e]
  | .ldSPHL => [0xF9]
  | .ldAAtA16 t => [0xFA, loByte t, hiByte t]
  | .ei => [0xFB]
  | .illegalFC => [0xFC]
  | .illegalFD => [0xFD]
  | .cpd8 n => [0xFE, n]
  | .rst38 => [0xFF]
  | .prefixCb => [0xCB]
  | .rlcB => [0xCB, 0x00]
  | .rlcC => [0xCB, 0x01]
  | .rlcD => [0xCB, 0x02]
  | .rlcE => [0xCB, 0x03]
  | .rlcH => [0xCB, 0x04]
  | .rlcL => [0xCB, 0x05]
  | .rlcAtHL => [0xCB, 0x06]
  | .rlcA => [0xCB, 0x07]
  | .rrcB => [0xCB, 0x08]
  | .rrcC => [0xCB, 0x09]
  | .rrcD => [0xCB, 0x0A]
  | .rrcE => [0xCB, 0x0B]
  | .rrcH => [0xCB, 0x0C]
  | .rrcL => [0xCB, 0x0D]
  | .rrcAtHL => [0xCB, 0x0E]
  | .rrcA => [0xCB, 0x0F]
  | .rlB => [0xCB, 0x10]
  | .rlC => [0xCB, 0x11]
  | .rlD => [0xCB, 0x12]
  | .rlE => [0xCB, 0x13]
  | .rlH => [0xCB, 0x14]
  | .rlL => [0xCB, 0x15]
  | .rlAtHL => [0xCB, 0x16]
  | .rlA => [0xCB, 0x17]
  | .rrB => [0xCB, 0x18]
  | .rrC => [0xCB, 0x19]
  | .rrD => [0xCB, 0x1A]
  | .rrE => [0xCB, 0x1B]
  | .rrH => [0xCB, 0x1C]
  | .rrL => [0xCB, 0x1D]
  | .rrAtHL => [0xCB, 0x1E]
  | .rrA => [0xCB, 0x1F]
  | .slaB => [0xCB, 0x20]
  | .slaC => [0xCB, 0x21]
  | .slaD => [0xCB, 0x22]
  | .slaE => [0xCB, 0x23]
  | .slaH => [0xCB, 0x24]
  | .slaL => [0xCB, 0x25]
  | .slaAtHL => [0xCB, 0x26]
  | .slaA => [0xCB, 0x27]
  | .sraB => [0xCB, 0x28]
  | .sraC => [0xCB, 0x29]
  | .sraD => [0xCB, 0x2A]
  | .sraE => [0xCB, 0x2B]
  | .sraH => [0xCB, 0x2C]
  | .sraL => [0xCB, 0x2D]
  | .sraAtHL => [0xCB, 0x2E]
  | .sraA => [0xCB, 0x2F]
  | .swapB => [0xCB, 0x30]
  | .swapC => [0xCB, 0x31]
  | .swapD => [0xCB, 0x32]
  | .swapE => [0xCB, 0x33]
  | .swapH => [0xCB, 0x34]
  | .swapL => [0xCB, 0x35]
  | .swapAtHL => [0xCB, 0x36]
  | .swapA => [0xCB, 0x37]
  | .srlB => [0xCB, 0x38]
  | .srlC => [0xCB, 0x39]
  | .srlD => [0xCB, 0x3A]
  | .srlE => [0xCB, 0x3B]
  | .srlH => [0xCB, 0x3C]
  | .srlL => [0xCB, 0x3D]
  | .srlAtHL => [0xCB, 0x3E]
  | .srlA => [0xCB, 0x3F]
  | .bit0B => [0xCB, 0x40]
  | .bit0C => [0xCB, 0x41]
  | .bit0D => [0xCB, 0x42]
  | .bit0E => [0xCB, 0x43]
  | .bit0H => [0xCB, 0x44]
  | .bit0L => [0xCB, 0x45]
  | .bit0AtHL => [0xCB, 0x46]
  | .bit0A => [0xCB, 0x47]
  | .bit1B => [0xCB, 0x48]
  | .bit1C => [0xCB, 0x49]
  | .bit1D => [0xCB, 0x4A]
  | .bit1E => [0xCB, 0x4B]
  | .bit1H => [0xCB, 0x4C]
  | .bit1L => [0xCB, 0x4D]
  | .bit1AtHL => [0xCB, 0x4E]
  | .bit1A => [0xCB, 0x4F]
  | .bit2B => [0xCB, 0x50]
  | .bit2C => [0xCB, 0x51]
  | .bit2D => [0xCB, 0x52]
  | .bit2E => [0xCB, 0x53]
  | .bit2H => [0xCB, 0x54]
  | .bit2L => [0xCB, 0x55]
  | .bit2AtHL => [0xCB, 0x56]
  | .bit2A => [0xCB, 0x57]
  | .bit3B => [0xCB, 0x58]
  | .bit3C => [0xCB, 0x59]
  | .bit3D => [0xCB, 0x5A]
  | .bit3E => [0xCB, 0x5B]
  | .bit3H => [0xCB, 0x5C]
  | .bit3L => [0xCB, 0x5D]
  | .bit3AtHL => [0xCB, 0x5E]
  | .bit3A => [0xCB, 0x5F]
  | .bit4B => [0xCB, 0x60]
  | .bit4C => [0xCB, 0x61]
  | .bit4D => [0xCB, 0x62]
  | .bit4E => [0xCB, 0x63]
  | .bit4H => [0xCB, 0x64]
  | .bit4L => [0xCB, 0x65]
  | .bit4AtHL => [0xCB, 0x66]
  | .bit4A => [0xCB, 0x67]
  | .bit5B => [0xCB, 0x68]
  | .bit5C => [0xCB, 0x69]
  | .bit5D => [0xCB, 0x6A]
  | .bit5E => [0xCB, 0x6B]
  | .bit5H => [0xCB, 0x6C]
  | .bit5L => [0xCB, 0x6D]
  | .bit5AtHL => [0xCB, 0x6E]
  | .bit5A => [0xCB, 0x6F]
  | .bit6B => [0xCB, 0x70]
  | .bit6C => [0xCB, 0x71]
  | .bit6D => [0xCB, 0x72]
  | .bit6E => [0xCB, 0x73]
  | .bit6H => [0xCB, 0x74]
  | .bit6L => [0xCB, 0x75]
  | .bit6AtHL => [0xCB, 0x76]
  | .bit6A => [0xCB, 0x77]
  | .bit7B => [0xCB, 0x78]
  | .bit7C => [0xCB, 0x79]
  | .bit7D => [0xCB, 0x7A]
  | .bit7E => [0xCB, 0x7B]
  | .bit7H => [0xCB, 0x7C]
  | .bit7L => [0xCB, 0x7D]
  | .bit7AtHL => [0xCB, 0x7E]
  | .bit7A => [0xCB, 0x7F]
  | .res0B => [0xCB, 0x80]
  | .res0C => [0xCB, 0x81]
  | .res0D => [0xCB, 0x82]
  | .res0E => [0xCB, 0x83]
  | .res0H => [0xCB, 0x84]
  | .res0L => [0xCB, 0x85]
  | .res0AtHL => [0xCB, 0x86]
  | .res0A => [0xCB, 0x87]
  | .res1B => [0xCB, 0x88]
  | .res1C => [0xCB, 0x89]
  | .res1D => [0xCB, 0x8A]
  | .res1E => [0xCB, 0x8B]
  | .res1H => [0xCB, 0x8C]
  | .res1L => [0xCB, 0x8D]
  | .res1AtHL => [0xCB, 0x8E]
  | .res1A => [0xCB, 0x8F]
  | .res2B => [0xCB, 0x90]
  | .res2C => [0xCB, 0x91]
  | .res2D => [0xCB, 0x92]
  | .res2E => [0xCB, 0x93]
  | .res2H => [0xCB, 0x94]
  | .res2L => [0xCB, 0x95]
  | .res2AtHL => [0xCB, 0x96]
  | .res2A => [0xCB, 0x97]
  | .res3B => [0xCB, 0x98]
  | .res3C => [0xCB, 0x99]
  | .res3D => [0xCB, 0x9A]
  | .res3E => [0xCB, 0x9B]
  | .res3H => [0xCB, 0x9C]
  | .res3L => [0xCB, 0x9D]
  | .res3AtHL => [0xCB, 0x9E]
  | .res3A => [0xCB, 0x9F]
  | .res4B => [0xCB, 0xA0]
  | .res4C => [0xCB, 0xA1]
  | .res4D => [0xCB, 0xA2]
  | .res4E => [0xCB, 0xA3]
  | .res4H => [0xCB, 0xA4]
  | .res4L => [0xCB, 0xA5]
  | .res4AtHL => [0xCB, 0xA6]
  | .res4A => [0xCB, 0xA7]
  | .res5B => [0xCB, 0xA8]
  | .res5C => [0xCB, 0xA9]
  | .res5D => [0xCB, 0xAA]
  | .res5E => [0xCB, 0xAB]
  | .res5H => [0xCB, 0xAC]
  | .res5L => [0xCB, 0xAD]
  | .res5AtHL => [0xCB, 0xAE]
  | .res5A => [0xCB, 0xAF]
  | .res6B => [0xCB, 0xB0]
  | .res6C => [0xCB, 0xB1]
  | .res6D => [0xCB, 0xB2]
  | .res6E => [0xCB, 0xB3]
  | .res6H => [0xCB, 0xB4]
  | .res6L => [0xCB, 0xB5]
  | .res6AtHL => [0xCB, 0xB6]
  | .res6A => [0xCB, 0xB7]
  | .res7B => [0xCB, 0xB8]
  | .res7C => [0xCB, 0xB9]
  | .res7D => [0xCB, 0xBA]
  | .res7E => [0xCB, 0xBB]
  | .res7H => [0xCB, 0xBC]
  | .res7L => [0xCB, 0xBD]
  | .res7AtHL => [0xCB, 0xBE]
  | .res7A => [0xCB, 0xBF]
  | .set0B => [0xCB, 0xC0]
  | .set0C => [0xCB, 0xC1]
  | .set0D => [0xCB, 0xC2]
  | .set0E => [0xCB, 0xC3]
  | .set0H => [0xCB, 0xC4]
  | .set0L => [0xCB, 0xC5]
  | .set0AtHL => [0xCB, 0xC6]
  | .set0A => [0xCB, 0xC7]
  | .set1B => [0xCB, 0xC8]
  | .set1C => [0xCB, 0xC9]
  | .set1D => [0xCB, 0xCA]
  | .set1E => [0xCB, 0xCB]
  | .set1H => [0xCB, 0xCC]
  | .set1L => [0xCB, 0xCD]
  | .set1AtHL => [0xCB, 0xCE]
  | .set1A => [0xCB, 0xCF]
  | .set2B => [0xCB, 0xD0]
  | .set2C => [0xCB, 0xD1]
  | .set2D => [0xCB, 0xD2]
  | .set2E => [0xCB, 0xD3]
  | .set2H => [0xCB, 0xD4]
  | .set2L => [0xCB, 0xD5]
  | .set2AtHL => [0xCB, 0xD6]
  | .set2A => [0xCB, 0xD7]
  | .set3B => [0xCB, 0xD8]
  | .set3C => [0xCB, 0xD9]
  | .set3D => [0xCB, 0xDA]
  | .set3E => [0xCB, 0xDB]
  | .set3H => [0xCB, 0xDC]
  | .set3L => [0xCB, 0xDD]
  | .set3AtHL => [0xCB, 0xDE]
  | .set3A => [0xCB, 0xDF]
  | .set4B => [0xCB, 0xE0]
  | .set4C => [0xCB, 0xE1]
  | .set4D => [0xCB, 0xE2]
  | .set4E => [0xCB, 0xE3]
  | .set4H => [0xCB, 0xE4]
  | .set4L => [0xCB, 0xE5]
  | .set4AtHL => [0xCB, 0xE6]
  | .set4A => [0xCB, 0xE7]
  | .set5B => [0xCB, 0xE8]
  | .set5C => [0xCB, 0xE9]
  | .set5D => [0xCB, 0xEA]
  | .set5E => [0xCB, 0xEB]
  | .set5H => [0xCB, 0xEC]
  | .set5L => [0xCB, 0xED]
  | .set5AtHL => [0xCB, 0xEE]
  | .set5A => [0xCB, 0xEF]
  | .set6B => [0xCB, 0xF0]
  | .set6C => [0xCB, 0xF1]
  | .set6D => [0xCB, 0xF2]
  | .set6E => [0xCB, 0xF3]
  | .set6H => [0xCB, 0xF4]
  | .set6L => [0xCB, 0xF5]
  | .set6AtHL => [0xCB, 0xF6]
  | .set6A => [0xCB, 0xF7]
  | .set7B => [0xCB, 0xF8]
  | .set7C => [0xCB, 0xF9]
  | .set7D => [0xCB, 0xFA]
  | .set7E => [0xCB, 0xFB]
  | .set7H => [0xCB, 0xFC]
  | .set7L => [0xCB, 0xFD]
  | .set7AtHL => [0xCB, 0xFE]
  | .set7A => [0xCB, 0xFF]

end Sys2Proof
end

