-- ==== Sys2Proof/Config.lean ====
section
/-! DEFINITION. What an implementation fixes (the OPEN parameters of 00_scope.md R6, as plain data that State carries
and no step changes), the cartridge configuration decoded from the header (20_memory.md R131), and the free values:
opaque constants of which nothing can be proved. -/

namespace Sys2Proof

/-- The hardware variant, `MODEL` of R6 (D8). -/
inductive Model where
  | dmg
  | cgb
  deriving DecidableEq, Repr

/-- The OPEN parameters of R6 that are values (92_eei_decisions.md section 9). `BUTTONS` is a host input and stands in
the joypad state; `CGB_MODE` is derived. -/
structure Params where
  /-- MODEL (D8). -/
  model : Model
  /-- ACCESS_LOCKOUT (D10, R109). -/
  accessLockout : Bool
  /-- GDMA_CYCLES (D12, R189) as its table of values: entry n - 1 is the cost of n blocks, n from 1 to 128. -/
  gdmaCycles : List Nat
  /-- SAMPLE_PERIOD in dots (D31, R684). -/
  samplePeriod : Nat
  /-- SAMPLE_BUFFER_CAPACITY in stereo pairs (D31, R684). -/
  sampleCapacity : Nat
  /-- DIV_COUNTER_RESET (D7, R45). -/
  divCounterReset : BitVec 16
  deriving DecidableEq, Repr

/-- The MBC variants of R131. -/
inductive MbcKind where
  | mbc0
  | mbc1
  | mbc2
  | mbc3
  | mbc5
  deriving DecidableEq, Repr

/-- `CART`: the cartridge configuration decoded from the header (R6, R131), fixed until the next load. -/
structure Cart where
  /-- The MBC variant (R131). -/
  kind : MbcKind
  /-- Number of 16 KiB ROM banks, a power of two (R131). -/
  romBanks : Nat
  /-- External RAM size in bytes, 0 when there is none (R131); 512 cells for MBC2. -/
  ramSize : Nat
  /-- The RAM flag of CartridgeInfo (R131). -/
  hasRam : Bool
  /-- The BATTERY flag (R131). -/
  battery : Bool
  /-- The RTC flag (R131, R159). -/
  rtc : Bool
  /-- The RUMBLE flag (R131, R165). -/
  rumble : Bool
  /-- Bit 7 of header byte 0x0143: the cartridge asks for CGB functions (R130, log 24). -/
  cgbFlag : Bool
  deriving DecidableEq, Repr

/-- FREE VALUE (log 5): the n-th byte an HDMA block copies from a source the hardware does not document, `any value` of
R187 (I9, D45). It has no body, so no proof can know one of its values. -/
opaque Config.freeByte : Nat → Byte

/-- FREE VALUE (log 6): the tile byte of VRAM bank `bank` at offset `off` outside 0x0000-0x1FFF, which R646 reaches
only when OAM changed between sprite selection and drawing, and for which the spec states no value. -/
opaque Config.offVram : (bank : Nat) → (off : Int) → Byte

/-- The parameters State.reset takes. DESIGN CHOICE (log 2), unsafe for a claim that rests on one of them: the spec
leaves every one OPEN, so claims about reset are stated for all `Params`. -/
def Params.default : Params where
  model := .dmg
  accessLockout := true
  gdmaCycles := (List.range 128).map fun k => 32 * (k + 1)
  samplePeriod := 87
  sampleCapacity := 512
  divCounterReset := 0xABCC

/-- The cartridge of State.reset: no image loaded, every ROM byte unlisted. DESIGN CHOICE (log 3). -/
def Cart.blank : Cart where
  kind := .mbc0
  romBanks := 2
  ramSize := 0
  hasRam := false
  battery := false
  rtc := false
  rumble := false
  cgbFlag := false

end Sys2Proof
end

