-- ==== Sys2Proof/Machine/Parts.lean ====
section
/-! DEFINITION. The parts of the machine's state as plain data (10_state.md R30-R69). Each field names the rule that
gives it. Registers the spec numbers keep their bits in a bit vector that holds only the implemented bits; counters the
spec gives as a range of numbers are Nat. -/

namespace Sys2Proof.Machine

/-- The four flags, stored individually (R30, R33). -/
structure Flags where
  z : Bool
  n : Bool
  h : Bool
  c : Bool
  deriving DecidableEq, Repr

/-- The CPU registers and hidden bits (R30, R34, R35, R36). -/
structure Cpu where
  a : Byte
  b : Byte
  c : Byte
  d : Byte
  e : Byte
  h : Byte
  l : Byte
  flags : Flags
  sp : Word
  pc : Word
  /-- Interrupt master enable. -/
  ime : Bool
  /-- An EI has executed and IME becomes 1 after the next instruction (R485, R612). -/
  eiPending : Bool
  /-- HALT is suspending fetch (R481). -/
  halted : Bool
  /-- The next opcode fetch does not increment PC (R482). -/
  haltBug : Bool
  /-- STOP low-power state (R483). -/
  stopped : Bool
  /-- CGB double speed, KEY1 bit 7 (R60). -/
  doubleSpeed : Bool
  /-- Set once by an unknown instruction: (opcode, cb) (R600). -/
  fault : Option (Byte × Bool)
  /-- T-cycles executed since reset. -/
  cycleCount : Nat
  deriving DecidableEq, Repr

/-- Interrupt request and enable (R52, R53). -/
structure Irq where
  /-- IF bits 4:0. -/
  flag : BitVec 5
  /-- IE, all 8 bits stored. -/
  enable : Byte
  deriving DecidableEq, Repr

/-- The memories of R40; each is a separate region, indexed as R40 says. -/
inductive Region where
  /-- Cartridge ROM: bank*0x4000 + offset. -/
  | rom
  /-- Cartridge RAM: bank*0x2000 + offset, or the 512 cells of MBC2. -/
  | cartRam
  /-- VRAM: bank*0x2000 + offset. -/
  | vram
  /-- WRAM: bank*0x1000 + offset. -/
  | wram
  /-- OAM: address - 0xFE00. -/
  | oam
  /-- HRAM: address - 0xFF80. -/
  | hram
  /-- BG palette RAM (CGB). -/
  | bgPal
  /-- OBJ palette RAM (CGB). -/
  | objPal
  /-- APU wave RAM: address - 0xFF30. -/
  | wave
  deriving DecidableEq, Repr

/-- What a byte that nothing has written reads as (log 7): RAM 0 and palette RAM 0xFF (R40); ROM 0xFF, as a byte past
the end of the image reads (R134). -/
def Region.blank (r : Region) : Byte :=
  match r with
  | .rom => 0xFF
  | .bgPal => 0xFF
  | .objPal => 0xFF
  | _ => 0

/-- The contents of every region. -/
structure Memory where
  rom : List Host.Cell
  cartRam : List Host.Cell
  vram : List Host.Cell
  wram : List Host.Cell
  oam : List Host.Cell
  hram : List Host.Cell
  bgPal : List Host.Cell
  objPal : List Host.Cell
  wave : List Host.Cell
  deriving DecidableEq, Repr

/-- MBC1 registers (R41, R145). -/
structure Mbc1 where
  ramEnable : Bool
  bank1 : BitVec 5
  bank2 : BitVec 2
  mode : Bool
  deriving DecidableEq, Repr

/-- MBC2 registers (R41, R150). -/
structure Mbc2 where
  ramEnable : Bool
  romBank : BitVec 4
  deriving DecidableEq, Repr

/-- MBC3 registers (R41, R155). -/
structure Mbc3 where
  ramEnable : Bool
  romBank : BitVec 7
  ramSelect : Byte
  latchArmed : Bool
  deriving DecidableEq, Repr

/-- MBC5 registers (R41, R165). -/
structure Mbc5 where
  ramEnable : Bool
  romBank : BitVec 9
  ramBank : BitVec 4
  deriving DecidableEq, Repr

/-- The MBC state, one alternative per variant (R41). -/
inductive Mbc where
  | mbc0
  | mbc1 (r : Mbc1)
  | mbc2 (r : Mbc2)
  | mbc3 (r : Mbc3)
  | mbc5 (r : Mbc5)
  deriving DecidableEq, Repr

/-- The MBC3 real-time clock: live registers, latched bytes, and the sub-second count (R42). -/
structure Rtc where
  sec : BitVec 6
  min : BitVec 6
  hour : BitVec 5
  day : BitVec 9
  halt : Bool
  carry : Bool
  latS : Byte
  latM : Byte
  latH : Byte
  latDL : Byte
  latDH : Byte
  /-- Dots since the last second, 0..4194303. -/
  subsecond : Nat
  deriving DecidableEq, Repr

/-- Divider and timer (R45, R54). -/
structure Timer where
  divCounter : BitVec 16
  tima : Byte
  tma : Byte
  /-- TAC bits 2:0. -/
  tac : BitVec 3
  /-- `timer_signal`, the last value of the TIMA clock signal. -/
  signal : Bool
  deriving DecidableEq, Repr

/-- Serial port (R46, R55). -/
structure Serial where
  sb : Byte
  /-- SC: bits 7 and 0, and bit 1 in CGB mode. -/
  sc : Byte
  active : Bool
  /-- Bits shifted so far, 0..8. -/
  bits : Nat
  /-- T-cycles since the last bit. -/
  acc : Nat
  deriving DecidableEq, Repr

/-- The eight buttons, 1 = pressed (`BUTTONS`, R6, R48). -/
structure Buttons where
  right : Bool
  left : Bool
  up : Bool
  down : Bool
  btnA : Bool
  btnB : Bool
  select : Bool
  start : Bool
  deriving DecidableEq, Repr

/-- Joypad (R48, R51). -/
structure Joypad where
  buttons : Buttons
  /-- P1 bits 5:4, the two select bits. -/
  select : BitVec 2
  /-- `joyp_lines`, the last computed value of the input lines (R630). -/
  lines : BitVec 4
  deriving DecidableEq, Repr

/-- CGB selectors: VBK, SVBK and the KEY1 armed bit (R60, R61). -/
structure Selectors where
  vbk : BitVec 1
  svbk : BitVec 3
  speedArmed : Bool
  deriving DecidableEq, Repr

/-- HDMA engine (R47, R62). -/
structure Hdma where
  active : Bool
  /-- `hdma_mode`: false = GDMA, true = HDMA (H-Blank). -/
  hblank : Bool
  src : Word
  /-- Destination offset in VRAM. -/
  dst : BitVec 13
  /-- Remaining blocks minus 1. -/
  blocks : BitVec 7
  deriving DecidableEq, Repr

/-- PPU modes, numbered 0 to 3 in STAT (R43). -/
inductive PpuMode where
  | hblank
  | vblank
  | oamScan
  | pixelTransfer
  deriving DecidableEq, Repr

/-- PPU registers, internal state and framebuffer (R40, R43, R56-R59, R63). -/
structure Ppu where
  lcdc : Byte
  /-- STAT bits 6:3; bit 7 and bits 2:0 are not stored. -/
  stat : Byte
  scy : Byte
  scx : Byte
  lyc : Byte
  wy : Byte
  wx : Byte
  /-- DMA, the last value written (R59). -/
  dma : Byte
  bgp : Byte
  obp0 : Byte
  obp1 : Byte
  /-- BCPS bits 7 and 5:0. -/
  bcps : Byte
  /-- OCPS bits 7 and 5:0. -/
  ocps : Byte
  mode : PpuMode
  /-- Line, 0..153. -/
  ly : Nat
  /-- Position within the line, 0..455. -/
  dot : Nat
  /-- Internal window line counter. -/
  windowLine : Nat
  windowDrew : Bool
  statLine : Bool
  /-- OAM indices selected for the current line, at most 10. -/
  sprites : List Nat
  /-- The sprite height used at selection (R646, log 10). -/
  spriteHeight : Nat
  skipPending : Bool
  skipFrame : Bool
  /-- Framebuffer rows: (line, its 160 pixels); an unlisted row is all 0. -/
  frame : List (Nat × List Pixel)
  deriving DecidableEq, Repr

/-- A square channel: registers NRn1-NRn4 and internal state (R44, R64, R65). -/
structure Square where
  /-- NRn1 bits 7:6. -/
  duty : Byte
  /-- NRn2. -/
  env : Byte
  /-- NRn3, frequency bits 7:0. -/
  freqLo : Byte
  /-- NRn4 bits 6 and 2:0. -/
  ctl : Byte
  enabled : Bool
  dac : Bool
  length : Nat
  freqTimer : Nat
  dutyPos : Nat
  volume : Nat
  envTimer : Nat
  deriving DecidableEq, Repr

/-- The frequency sweep of square channel 1 (R44, R64). -/
structure Sweep where
  /-- NR10 bits 6:0. -/
  nr10 : Byte
  timer : Nat
  shadow : Nat
  enabled : Bool
  deriving DecidableEq, Repr

/-- The wave channel (R44, R66); its RAM is the region `wave`. -/
structure WaveCh where
  /-- NR30 bit 7. -/
  dacReg : Byte
  /-- NR32 bits 6:5. -/
  level : Byte
  /-- NR33. -/
  freqLo : Byte
  /-- NR34 bits 6 and 2:0. -/
  ctl : Byte
  enabled : Bool
  dac : Bool
  length : Nat
  freqTimer : Nat
  /-- `wave_pos`, 0..31. -/
  pos : Nat
  deriving DecidableEq, Repr

/-- The noise channel (R44, R67). -/
structure NoiseCh where
  /-- NR42. -/
  env : Byte
  /-- NR43. -/
  poly : Byte
  /-- NR44 bit 6. -/
  ctl : Byte
  enabled : Bool
  dac : Bool
  length : Nat
  freqTimer : Nat
  volume : Nat
  envTimer : Nat
  lfsr : BitVec 15
  deriving DecidableEq, Repr

/-- The APU (R44, R64-R68). -/
structure Apu where
  sweep : Sweep
  ch1 : Square
  ch2 : Square
  ch3 : WaveCh
  ch4 : NoiseCh
  nr50 : Byte
  nr51 : Byte
  /-- NR52 bit 7. -/
  power : Bool
  /-- Frame-sequencer step, 0..7. -/
  fsStep : Nat
  /-- Dots since the last frame-sequencer tick, 0..8191. -/
  fsAcc : Nat
  /-- Dots since the last mixer sample. -/
  sampleAcc : Nat
  /-- Stereo pairs not yet handed to the host. -/
  sampleBuf : List (Nat × Nat)
  deriving DecidableEq, Repr

/-- A host callback made inside a step (R615). The error callback is the step's fault outcome. -/
inductive Callback where
  /-- The frame is complete (R659). -/
  | vblank
  /-- The sample buffer is full and handed over (R684). -/
  | samples (buf : List (Nat × Nat))
  deriving DecidableEq, Repr

end Sys2Proof.Machine
end

