-- ==== Sys2Proof/Machine/ResetValues.lean ====
section
/-! DEFINITION. The reset value of every part of the state (10_state.md R36-R70, 70_reset_and_hazards.md R800-R802).
The CPU registers depend on MODEL (R801), the IO registers on CGB mode (R50, R70, log 16). -/

namespace Sys2Proof.Machine

/-- CPU registers and hidden bits (R36, R801). -/
def resetCpu (m : Model) : Cpu where
  a := match m with | .dmg => 0x01 | .cgb => 0x11
  b := 0x00
  c := match m with | .dmg => 0x13 | .cgb => 0x00
  d := match m with | .dmg => 0x00 | .cgb => 0xFF
  e := match m with | .dmg => 0xD8 | .cgb => 0x56
  h := match m with | .dmg => 0x01 | .cgb => 0x00
  l := match m with | .dmg => 0x4D | .cgb => 0x0D
  flags := match m with
    | .dmg => { z := true, n := false, h := true, c := true }
    | .cgb => { z := true, n := false, h := false, c := false }
  sp := 0xFFFE
  pc := 0x0100
  ime := false
  eiPending := false
  halted := false
  haltBug := false
  stopped := false
  doubleSpeed := false
  fault := none
  cycleCount := 0

/-- IF reads 0xE1 and IE 0x00 (R52, R53). -/
def resetIrq : Irq := { flag := 0b00001, enable := 0x00 }

/-- The memories with the given ROM image and nothing else listed (R40, R800). -/
def resetMemory (rom : List Host.Cell) : Memory where
  rom := rom
  cartRam := []
  vram := []
  wram := []
  oam := []
  hram := []
  bgPal := []
  objPal := []
  wave := []

/-- The MBC starting state per variant (R41). -/
def resetMbc (k : MbcKind) : Mbc :=
  match k with
  | .mbc0 => .mbc0
  | .mbc1 => .mbc1 { ramEnable := false, bank1 := 1, bank2 := 0, mode := false }
  | .mbc2 => .mbc2 { ramEnable := false, romBank := 1 }
  | .mbc3 => .mbc3 { ramEnable := false, romBank := 1, ramSelect := 0, latchArmed := false }
  | .mbc5 => .mbc5 { ramEnable := false, romBank := 1, ramBank := 0 }

/-- The RTC, all 0 (R42). -/
def resetRtc : Rtc where
  sec := 0
  min := 0
  hour := 0
  day := 0
  halt := false
  carry := false
  latS := 0
  latM := 0
  latH := 0
  latDL := 0
  latDH := 0
  subsecond := 0

/-- The timer (R45, R54, R802). -/
def resetTimer (d : BitVec 16) : Timer := { divCounter := d, tima := 0, tma := 0, tac := 0, signal := false }

/-- The serial port (R46, R55). -/
def resetSerial (cgbMode : Bool) : Serial :=
  { sb := 0x00, sc := if cgbMode then 0x03 else 0x00, active := false, bits := 0, acc := 0 }

/-- The joypad: no button pressed, both groups selected, lines 0xF (R48, R51, R802). -/
def resetJoypad : Joypad where
  buttons :=
    { right := false, left := false, up := false, down := false, btnA := false, btnB := false, select := false,
      start := false }
  select := 0b00
  lines := 0xF

/-- VBK bank 0, SVBK stored 0, no speed switch armed (R60, R61, R802). -/
def resetSelectors : Selectors := { vbk := 0, svbk := 0, speedArmed := false }

/-- The HDMA engine (R47, R802); its mode while inactive is GDMA: DESIGN CHOICE (log 34). -/
def resetHdma : Hdma := { active := false, hblank := false, src := 0xFFF0, dst := 0x1FF0, blocks := 0x7F }

/-- The PPU (R43, R56-R59, R63, R802). -/
def resetPpu (cgbMode : Bool) : Ppu where
  lcdc := 0x91
  stat := 0x00
  scy := 0x00
  scx := 0x00
  lyc := 0x00
  wy := 0x00
  wx := 0x00
  dma := if cgbMode then 0x00 else 0xFF
  bgp := 0xFC
  obp0 := 0xFF
  obp1 := 0xFF
  bcps := 0x00
  ocps := 0x00
  mode := .oamScan
  ly := 0
  dot := 0
  windowLine := 0
  windowDrew := false
  statLine := false
  sprites := []
  spriteHeight := 8
  skipPending := false
  skipFrame := false
  frame := []

/-- A square channel with the given NRn1 and NRn2; channel 1 starts enabled with its DAC on (R64, R65, R802). The
write-only frequency bits are 0: DESIGN CHOICE (log 4). -/
def resetSquare (duty env : Byte) (on : Bool) : Square where
  duty := duty
  env := env
  freqLo := 0x00
  ctl := 0x00
  enabled := on
  dac := on
  length := 0
  freqTimer := 0
  dutyPos := 0
  volume := 0
  envTimer := 0

/-- The APU (R64-R68, R802). -/
def resetApu : Apu where
  sweep := { nr10 := 0x00, timer := 0, shadow := 0, enabled := false }
  ch1 := resetSquare 0x80 0xF3 true
  ch2 := resetSquare 0x00 0x00 false
  ch3 :=
    { dacReg := 0x00, level := 0x00, freqLo := 0x00, ctl := 0x00, enabled := false, dac := false, length := 0,
      freqTimer := 0, pos := 0 }
  ch4 :=
    { env := 0x00, poly := 0x00, ctl := 0x00, enabled := false, dac := false, length := 0, freqTimer := 0,
      volume := 0, envTimer := 0, lfsr := 0x7FFF }
  nr50 := 0x77
  nr51 := 0xF3
  power := true
  fsStep := 0
  fsAcc := 0
  sampleAcc := 0
  sampleBuf := []

end Sys2Proof.Machine
end

