-- ==== Sys2Proof/Machine/State.lean ====
section
/-! DEFINITION. The whole state of the machine as plain data (10_state.md), the reasons a step can stop, and reset
(70_reset_and_hazards.md R800). -/

namespace Sys2Proof.Machine

/-- Everything 10_state.md gives the machine, with the cartridge and the OPEN parameters (R6), and three fields of the
model's own: `cost`, `freeCount`, `callbacks`. -/
structure State where
  /-- The OPEN parameters (R6, log 2); no step changes them. -/
  params : Params
  /-- CART (R6, R131); no step changes it. -/
  cart : Cart
  /-- The memories (R40). -/
  mem : Memory
  /-- The CPU (R30-R36). -/
  cpu : Cpu
  /-- IF and IE (R52, R53). -/
  irq : Irq
  /-- MBC registers (R41). -/
  mbc : Mbc
  /-- MBC3 real-time clock (R42). -/
  rtc : Rtc
  /-- Divider and timer (R45, R54). -/
  timer : Timer
  /-- Serial port (R46, R55). -/
  serial : Serial
  /-- Joypad (R48, R51). -/
  joypad : Joypad
  /-- VBK, SVBK, KEY1 armed (R60, R61). -/
  sel : Selectors
  /-- HDMA engine (R47). -/
  hdma : Hdma
  /-- PPU (R43, R56-R59, R63). -/
  ppu : Ppu
  /-- APU (R44, R64-R68). -/
  apu : Apu
  /-- MODEL'S OWN: T-cycles spent so far by the step in progress, the `cycles(n)` primitive of R9 (log 8). -/
  cost : Nat
  /-- MODEL'S OWN: how many free bytes have been drawn (log 5). -/
  freeCount : Nat
  /-- MODEL'S OWN: the host callbacks the last step made, in order (log 9). -/
  callbacks : List Callback
  deriving DecidableEq, Repr

/-- Why the machine stops. -/
inductive Fault where
  /-- `UnknownInstruction(opcode, cb)` (R600), the only fault of the core. Raised by the meaning of each of the eleven
  illegal opcodes (R486) and by every step of a state whose `fault` is recorded. Safe: the spec makes it terminal and
  gives the machine no run after it (D5). -/
  | unknownInstruction (op : Byte) (cb : Bool)
  deriving DecidableEq, Repr

/-- Why an instruction has no meaning. -/
inductive Refusal where
  /-- Raised only by an arm of `exec` whose instruction is not modelled; no arm is. Safe. -/
  | notModelled (mnemonic : String)
  deriving DecidableEq, Repr

/-- The three outcomes of a step of this machine. -/
abbrev Result := Host.Outcome State Fault Refusal

/-- `CGB_MODE` (R6, D8): CGB hardware with a cartridge that asks for CGB functions. -/
def cgbModeOf (m : Model) (cgbFlag : Bool) : Bool := decide (m = .cgb) && cgbFlag

/-- The reset of R800 for the given parameters, cartridge and ROM image: every other field at its reset value. -/
def State.resetWith (p : Params) (c : Cart) (rom : List Host.Cell) : State where
  params := p
  cart := c
  mem := resetMemory rom
  cpu := resetCpu p.model
  irq := resetIrq
  mbc := resetMbc c.kind
  rtc := resetRtc
  timer := resetTimer p.divCounterReset
  serial := resetSerial (cgbModeOf p.model c.cgbFlag)
  joypad := resetJoypad
  sel := resetSelectors
  hdma := resetHdma
  ppu := resetPpu (cgbModeOf p.model c.cgbFlag)
  apu := resetApu
  cost := 0
  freeCount := 0
  callbacks := []

/-- The machine right after reset, with no image placed in the cartridge (log 1, log 2, log 3). -/
def State.reset : State := State.resetWith Params.default Cart.blank []

end Sys2Proof.Machine
end

