-- ==== Sys2Proof/Machine/Store.lean ====
section
/-! DEFINITION. Sparse storage: a list of (key, value) pairs in one canonical form, keys strictly rising and no value
equal to the blank that an unlisted key reads as. Every memory of the machine and the framebuffer is one of these. -/

namespace Sys2Proof.Machine

/-- The value at key `k`, `blank` where none is listed. -/
def storeRead {α : Type} (blank : α) : List (Nat × α) → Nat → α
  | [], _ => blank
  | (j, v) :: rest, k => if k = j then v else storeRead blank rest k

/-- Put `v` at key `k`, in key order, replacing what is listed there. -/
def storePut {α : Type} : List (Nat × α) → Nat → α → List (Nat × α)
  | [], k, v => [(k, v)]
  | (j, w) :: rest, k, v =>
    if k < j then (k, v) :: (j, w) :: rest
    else if k = j then (k, v) :: rest
    else (j, w) :: storePut rest k v

/-- Take key `k` out of the list. -/
def storeErase {α : Type} : List (Nat × α) → Nat → List (Nat × α)
  | [], _ => []
  | (j, w) :: rest, k => if k = j then storeErase rest k else (j, w) :: storeErase rest k

/-- Write `v` at key `k`: writing the blank takes the entry out, so that equal memories are equal lists. -/
def storeWrite {α : Type} [DecidableEq α] (blank : α) (m : List (Nat × α)) (k : Nat) (v : α) : List (Nat × α) :=
  if v = blank then storeErase m k else storePut m k v

/-- Every key of the list is above `k`. -/
def keysAbove {α : Type} (k : Nat) : List (Nat × α) → Bool
  | [] => true
  | (j, _) :: rest => decide (k < j) && keysAbove k rest

/-- The canonical form: keys strictly rising, no value equal to the blank. -/
def storeWf {α : Type} [DecidableEq α] (blank : α) : List (Nat × α) → Bool
  | [] => true
  | (j, v) :: rest => decide (v ≠ blank) && keysAbove j rest && storeWf blank rest

/-- The canonical list of a run of values placed from key `k` on. -/
def storeOfList {α : Type} [DecidableEq α] (blank : α) : Nat → List α → List (Nat × α)
  | _, [] => []
  | k, v :: rest =>
    if v = blank then storeOfList blank (k + 1) rest else (k, v) :: storeOfList blank (k + 1) rest

end Sys2Proof.Machine
end

