-- ==== Sys2Proof/Machine/Access.lean ====
section
/-! DEFINITION. The one place each kind of state is read and written: bytes of the memories, the interrupt requests,
the cost of the step, the host callbacks; and the canonical form of memory. -/

namespace Sys2Proof.Machine

/-- The listed cells of a region. -/
def cellsOf (m : Memory) (r : Region) : List Host.Cell :=
  match r with
  | .rom => m.rom
  | .cartRam => m.cartRam
  | .vram => m.vram
  | .wram => m.wram
  | .oam => m.oam
  | .hram => m.hram
  | .bgPal => m.bgPal
  | .objPal => m.objPal
  | .wave => m.wave

/-- The memory with a region's listed cells replaced. -/
def withCells (m : Memory) (r : Region) (cs : List Host.Cell) : Memory :=
  match r with
  | .rom => { m with rom := cs }
  | .cartRam => { m with cartRam := cs }
  | .vram => { m with vram := cs }
  | .wram => { m with wram := cs }
  | .oam => { m with oam := cs }
  | .hram => { m with hram := cs }
  | .bgPal => { m with bgPal := cs }
  | .objPal => { m with objPal := cs }
  | .wave => { m with wave := cs }

/-- The byte at index `i` of a region (R40). -/
def peek (s : State) (r : Region) (i : Nat) : Byte := storeRead r.blank (cellsOf s.mem r) i

/-- The state with the byte at index `i` of a region replaced (R40). -/
def poke (s : State) (r : Region) (i : Nat) (v : Byte) : State :=
  { s with mem := withCells s.mem r (storeWrite r.blank (cellsOf s.mem r) i v) }

/-- Every region of a memory is in canonical form. -/
def Memory.wf (m : Memory) : Bool :=
  storeWf Region.rom.blank m.rom && storeWf Region.cartRam.blank m.cartRam && storeWf Region.vram.blank m.vram
    && storeWf Region.wram.blank m.wram && storeWf Region.oam.blank m.oam && storeWf Region.hram.blank m.hram
    && storeWf Region.bgPal.blank m.bgPal && storeWf Region.objPal.blank m.objPal && storeWf Region.wave.blank m.wave

/-- A framebuffer row nothing has drawn: 160 pixels of 0 (R40). -/
def blankRow : List Pixel := List.replicate 160 0

/-- The framebuffer pixel at column `x` of line `y` (R40). -/
def framePixel (s : State) (x y : Nat) : Pixel := (storeRead blankRow s.ppu.frame y).getD x 0

/-- `CGB_MODE` (R6, D8). -/
def cgbMode (s : State) : Bool := cgbModeOf s.params.model s.cart.cgbFlag

/-- `request(i)`: a device sets bit i of IF (R9, R52). -/
def request (s : State) (i : Nat) : State :=
  { s with irq := { s.irq with flag := s.irq.flag ||| (1#5 <<< i) } }

/-- `cycles(n)`: the step in progress costs n more T-cycles (R9, R820). -/
def spend (s : State) (n : Nat) : State := { s with cost := s.cost + n }

/-- A host callback made inside the step (R615). -/
def callBack (s : State) (c : Callback) : State := { s with callbacks := s.callbacks ++ [c] }

/-- The pending interrupts `IE & IF & 0x1F` (R601, C8). -/
def pendingIrq (s : State) : BitVec 5 := s.irq.enable.setWidth 5 &&& s.irq.flag

end Sys2Proof.Machine
end

