-- ==== Sys2Proof/Machine/Cartridge.lean ====
section
/-! DEFINITION. The MBC address decoder and bank-switch logic (20_memory.md R134-R166) and the MBC3 real-time clock
(R155-R159). -/

namespace Sys2Proof.Machine

/-- The bank mapped at 0x0000-0x3FFF: bank 0 but for MBC1 in mode 1 (R134, R140, R146, R151, R156, R166). -/
def lowRomBank (s : State) : Nat :=
  match s.mbc with
  | .mbc0 => 0
  | .mbc1 r => if r.mode then r.bank2.toNat * 32 else 0
  | .mbc2 _ => 0
  | .mbc3 _ => 0
  | .mbc5 _ => 0

/-- The bank mapped at 0x4000-0x7FFF (R140, R146, R151, R156, R166). -/
def highRomBank (s : State) : Nat :=
  match s.mbc with
  | .mbc0 => 1
  | .mbc1 r => r.bank2.toNat * 32 + r.bank1.toNat
  | .mbc2 r => r.romBank.toNat
  | .mbc3 r => r.romBank.toNat
  | .mbc5 r => r.romBank.toNat

/-- The ROM index an address below 0x8000 reads, `RomByte` of R134: the bank modulo the bank count, then the offset. -/
def romIndex (s : State) (n : Nat) : Nat :=
  (if n < 0x4000 then lowRomBank s else highRomBank s) % s.cart.romBanks * 0x4000 + n % 0x4000

/-- `MbcReadRom` (R134, R140-R166); a byte past the image is unlisted and reads 0xFF. -/
def mbcReadRom (s : State) (n : Nat) : Byte := peek s .rom (romIndex s n)

/-- What an access to 0xA000-0xBFFF reaches (R136-R166). -/
inductive ExtTarget where
  /-- No RAM, RAM not enabled, or no RTC (R136, R157). -/
  | absent
  /-- Cartridge RAM at an index (R135). -/
  | ram (i : Nat)
  /-- A 4-bit cell of MBC2 (R152). -/
  | nibble (i : Nat)
  /-- An RTC register 0x08-0x0C (R157). -/
  | rtcReg (k : Nat)
  deriving DecidableEq, Repr

/-- Cartridge RAM bank `bank` at address `n`, `RamIndex` of R135. -/
def ramAt (s : State) (bank n : Nat) : ExtTarget :=
  if s.cart.ramSize = 0 then .absent else .ram ((bank * 0x2000 + (n - 0xA000)) % s.cart.ramSize)

/-- Decode of 0xA000-0xBFFF per variant (R136, R140, R146, R152, R157, R166). -/
def extTarget (s : State) (n : Nat) : ExtTarget :=
  match s.mbc with
  | .mbc0 => ramAt s 0 n
  | .mbc1 r => if r.ramEnable then ramAt s (if r.mode then r.bank2.toNat else 0) n else .absent
  | .mbc2 r => if r.ramEnable then .nibble (n % 512) else .absent
  | .mbc3 r =>
    if !r.ramEnable then .absent
    else if r.ramSelect.toNat ≤ 3 then ramAt s r.ramSelect.toNat n
    else if s.cart.rtc then .rtcReg r.ramSelect.toNat
    else .absent
  | .mbc5 r => if r.ramEnable then ramAt s r.ramBank.toNat n else .absent

/-- The latched byte of an RTC register (R158). -/
def rtcRead (t : Rtc) (k : Nat) : Byte :=
  match k with
  | 0x08 => t.latS
  | 0x09 => t.latM
  | 0x0A => t.latH
  | 0x0B => t.latDL
  | 0x0C => t.latDH
  | _ => 0xFF

/-- An RTC register write: masked, into the live register and its latched byte (R158). -/
def rtcWrite (t : Rtc) (k : Nat) (v : Byte) : Rtc :=
  match k with
  | 0x08 => { t with sec := v.extractLsb' 0 6, latS := v &&& 0x3F, subsecond := 0 }
  | 0x09 => { t with min := v.extractLsb' 0 6, latM := v &&& 0x3F }
  | 0x0A => { t with hour := v.extractLsb' 0 5, latH := v &&& 0x1F }
  | 0x0B => { t with day := t.day.extractLsb' 8 1 ++ v, latDL := v }
  | 0x0C =>
    { t with
      day := v.extractLsb' 0 1 ++ t.day.extractLsb' 0 8
      halt := v.getLsbD 6
      carry := v.getLsbD 7
      latDH := v &&& 0xC1 }
  | _ => t

/-- `RtcLatch()`: copy the live registers into the latched bytes (R42, R155). -/
def rtcLatch (t : Rtc) : Rtc :=
  { t with
    latS := t.sec.setWidth 8
    latM := t.min.setWidth 8
    latH := t.hour.setWidth 8
    latDL := t.day.extractLsb' 0 8
    latDH := bitAt 7 t.carry ||| bitAt 6 t.halt ||| bitAt 0 (t.day.getLsbD 8) }

/-- The carry chain of one RTC second (R159). -/
def rtcSecond (t : Rtc) : Rtc :=
  let t := { t with sec := t.sec + 1 }
  if t.sec ≠ 60 then t
  else
    let t := { t with sec := 0, min := t.min + 1 }
    if t.min ≠ 60 then t
    else
      let t := { t with min := 0, hour := t.hour + 1 }
      if t.hour ≠ 24 then t
      else
        let t := { t with hour := 0, day := t.day + 1 }
        if t.day = 0 then { t with carry := true } else t

/-- One dot of the clock of a cartridge with RTC (R159). -/
def rtcDot (s : State) : State :=
  if s.cart.rtc && !s.rtc.halt then
    if s.rtc.subsecond + 1 = 4194304 then { s with rtc := rtcSecond { s.rtc with subsecond := 0 } }
    else { s with rtc := { s.rtc with subsecond := s.rtc.subsecond + 1 } }
  else s

/-- The RAM-enable test: the low nibble is 0xA (R145, R150, R155, R165, D16). -/
def enablePattern (v : Byte) : Bool := decide (v.toNat % 16 = 0x0A)

/-- MBC1 register write (R145). -/
def mbc1Write (r : Mbc1) (n : Nat) (v : Byte) : Mbc1 :=
  if n < 0x2000 then { r with ramEnable := enablePattern v }
  else if n < 0x4000 then
    { r with bank1 := if v.extractLsb' 0 5 = 0 then 1 else v.extractLsb' 0 5 }
  else if n < 0x6000 then { r with bank2 := v.extractLsb' 0 2 }
  else { r with mode := v.getLsbD 0 }

/-- MBC2 register write: address bit 8 selects the register (R150). -/
def mbc2Write (r : Mbc2) (n : Nat) (v : Byte) : Mbc2 :=
  if n < 0x4000 then
    if n / 256 % 2 = 0 then { r with ramEnable := enablePattern v }
    else { r with romBank := if v.extractLsb' 0 4 = 0 then 1 else v.extractLsb' 0 4 }
  else r

/-- MBC3 register write, apart from the latch (R155). -/
def mbc3Write (r : Mbc3) (n : Nat) (v : Byte) : Mbc3 :=
  if n < 0x2000 then { r with ramEnable := enablePattern v }
  else if n < 0x4000 then
    { r with romBank := if v.extractLsb' 0 7 = 0 then 1 else v.extractLsb' 0 7 }
  else if n < 0x6000 then
    if v.toNat ≤ 0x03 ∨ (0x08 ≤ v.toNat ∧ v.toNat ≤ 0x0C) then { r with ramSelect := v } else r
  else { r with latchArmed := decide (v = 0x00) }

/-- The write that latches the clock: 0x01 to 0x6000-0x7FFF while armed (R155). -/
def mbc3Latches (r : Mbc3) (n : Nat) (v : Byte) : Bool :=
  decide (0x6000 ≤ n) && decide (v = 0x01) && r.latchArmed

/-- MBC5 register write; with rumble, bit 3 of the RAM bank drives the motor, which the model does not hold (R165,
log 22). -/
def mbc5Write (rumble : Bool) (r : Mbc5) (n : Nat) (v : Byte) : Mbc5 :=
  if n < 0x2000 then { r with ramEnable := enablePattern v }
  else if n < 0x3000 then { r with romBank := r.romBank.extractLsb' 8 1 ++ v }
  else if n < 0x4000 then { r with romBank := v.extractLsb' 0 1 ++ r.romBank.extractLsb' 0 8 }
  else if n < 0x6000 then
    { r with ramBank := if rumble then (v &&& 0x07).extractLsb' 0 4 else v.extractLsb' 0 4 }
  else r

/-- `MbcWrite`: a write to 0x0000-0x7FFF; the ROM itself is never written (R103, R140-R165). -/
def mbcWrite (s : State) (n : Nat) (v : Byte) : State :=
  match s.mbc with
  | .mbc0 => s
  | .mbc1 r => { s with mbc := .mbc1 (mbc1Write r n v) }
  | .mbc2 r => { s with mbc := .mbc2 (mbc2Write r n v) }
  | .mbc3 r =>
    { s with
      mbc := .mbc3 (mbc3Write r n v)
      rtc := if mbc3Latches r n v then rtcLatch s.rtc else s.rtc }
  | .mbc5 r => { s with mbc := .mbc5 (mbc5Write s.cart.rumble r n v) }

/-- `MbcReadRam` (R136, R140, R146, R152, R157, R158, R166). -/
def mbcReadRam (s : State) (n : Nat) : Byte :=
  match extTarget s n with
  | .absent => 0xFF
  | .ram i => peek s .cartRam i
  | .nibble i => 0xF0 ||| peek s .cartRam i
  | .rtcReg k => rtcRead s.rtc k

/-- `MbcWriteRam` (R136, R140, R146, R152, R157, R158, R166). -/
def mbcWriteRam (s : State) (n : Nat) (v : Byte) : State :=
  match extTarget s n with
  | .absent => s
  | .ram i => poke s .cartRam i v
  | .nibble i => poke s .cartRam i (v &&& 0x0F)
  | .rtcReg k => { s with rtc := rtcWrite s.rtc k v }

end Sys2Proof.Machine
end

