-- ==== Sys2Proof/Machine/Sound.lean ====
section
/-! DEFINITION. The APU (60_exceptions.md R670-R686): frame sequencer, length, envelope, sweep, the four channels,
mixer and samples, trigger, DACs, register writes and power. -/

namespace Sys2Proof.Machine

/-- `freq_n = {NRn4[2:0], NRn3}` (R670). -/
def freqOf (lo ctl : Byte) : Nat := field ctl 2 0 * 256 + lo.toNat

/-- The frequency of a square channel. -/
def squareFreq (q : Square) : Nat := freqOf q.freqLo q.ctl

/-- The duty tables (R676). -/
def dutyBit (d pos : Nat) : Nat :=
  let t : List Nat :=
    match d with
    | 0 => [0, 0, 0, 0, 0, 0, 0, 1]
    | 1 => [1, 0, 0, 0, 0, 0, 0, 1]
    | 2 => [1, 0, 0, 0, 0, 1, 1, 1]
    | _ => [0, 1, 1, 1, 1, 1, 1, 0]
  t.getD pos 0

/-- The noise divisors (R678). -/
def noiseDivisor (r : Nat) : Nat := [8, 16, 32, 48, 64, 80, 96, 112].getD r 0

/-- The noise timer's reload `DIVISOR[r] << s` (R678). -/
def noisePeriod (poly : Byte) : Nat := noiseDivisor (field poly 2 0) * 2 ^ field poly 7 4

/-- `LengthTick()` of a square channel (R672). -/
def squareLength (q : Square) : Square :=
  if q.ctl.getLsbD 6 && decide (0 < q.length) then
    { q with length := q.length - 1, enabled := q.enabled && decide (q.length ≠ 1) }
  else q

/-- `LengthTick()` of the wave channel (R672). -/
def waveLength (q : WaveCh) : WaveCh :=
  if q.ctl.getLsbD 6 && decide (0 < q.length) then
    { q with length := q.length - 1, enabled := q.enabled && decide (q.length ≠ 1) }
  else q

/-- `LengthTick()` of the noise channel (R672). -/
def noiseLength (q : NoiseCh) : NoiseCh :=
  if q.ctl.getLsbD 6 && decide (0 < q.length) then
    { q with length := q.length - 1, enabled := q.enabled && decide (q.length ≠ 1) }
  else q

/-- `LengthTick()` (R672). -/
def lengthTick (u : Apu) : Apu :=
  { u with ch1 := squareLength u.ch1, ch2 := squareLength u.ch2, ch3 := waveLength u.ch3, ch4 := noiseLength u.ch4 }

/-- The envelope law on (env_timer, volume) with register NRn2 (R673). -/
def envelopeStep (env : Byte) (timer volume : Nat) : Nat × Nat :=
  let p := field env 2 0
  if p = 0 then (timer, volume)
  else
    let t := timer - 1
    if t = 0 then
      (p, if env.getLsbD 3 then (if volume < 15 then volume + 1 else volume) else volume - 1)
    else (t, volume)

/-- Envelope of a square channel (R673). -/
def squareEnvelope (q : Square) : Square :=
  { q with envTimer := (envelopeStep q.env q.envTimer q.volume).1, volume := (envelopeStep q.env q.envTimer q.volume).2 }

/-- Envelope of the noise channel (R673). -/
def noiseEnvelope (q : NoiseCh) : NoiseCh :=
  { q with envTimer := (envelopeStep q.env q.envTimer q.volume).1, volume := (envelopeStep q.env q.envTimer q.volume).2 }

/-- `EnvelopeTick()` (R673). -/
def envelopeTick (u : Apu) : Apu :=
  { u with ch1 := squareEnvelope u.ch1, ch2 := squareEnvelope u.ch2, ch4 := noiseEnvelope u.ch4 }

/-- The frequency `SweepCalc()` computes: shadow plus or minus its shift (R675). -/
def sweepNext (w : Sweep) : Nat :=
  let d := w.shadow / 2 ^ field w.nr10 2 0
  if w.nr10.getLsbD 3 then w.shadow - d else w.shadow + d

/-- `SweepCalc()`: above 2047 it disables channel 1 (R675); its value is `sweepNext`. -/
def sweepCalc (u : Apu) : Apu :=
  if 2047 < sweepNext u.sweep then { u with ch1 := { u.ch1 with enabled := false } } else u

/-- Store a frequency in NR13 and NR14[2:0] (R674). -/
def setFreq1 (q : Square) (f : Nat) : Square :=
  { q with freqLo := BitVec.ofNat 8 f, ctl := (q.ctl &&& 0x40) ||| BitVec.ofNat 8 (f / 256 % 8) }

/-- The sweep timer's reload: the pace, or 8 for pace 0 (R674, R679). -/
def sweepReload (nr10 : Byte) : Nat := if field nr10 6 4 = 0 then 8 else field nr10 6 4

/-- `SweepTick()` (R674). -/
def sweepTick (u : Apu) : Apu :=
  let t := u.sweep.timer - 1
  if t = 0 then
    let u := { u with sweep := { u.sweep with timer := sweepReload u.sweep.nr10 } }
    if u.sweep.enabled && decide (field u.sweep.nr10 6 4 ≠ 0) then
      let n := sweepNext u.sweep
      let u := sweepCalc u
      if n ≤ 2047 ∧ field u.sweep.nr10 2 0 ≠ 0 then
        sweepCalc { u with sweep := { u.sweep with shadow := n }, ch1 := setFreq1 u.ch1 n }
      else u
    else u
  else { u with sweep := { u.sweep with timer := t } }

/-- `FrameSeqTick()` (R671). -/
def frameSeqTick (u : Apu) : Apu :=
  if u.fsAcc + 1 = 8192 then
    let u := { u with fsAcc := 0 }
    let u := if u.fsStep % 2 = 0 then lengthTick u else u
    let u := if u.fsStep = 2 ∨ u.fsStep = 6 then sweepTick u else u
    let u := if u.fsStep = 7 then envelopeTick u else u
    { u with fsStep := (u.fsStep + 1) % 8 }
  else { u with fsAcc := u.fsAcc + 1 }

/-- `SquareTick(n)` (R676). -/
def squareTick (q : Square) : Square :=
  if q.freqTimer ≤ 1 then { q with freqTimer := (2048 - squareFreq q) * 4, dutyPos := (q.dutyPos + 1) % 8 }
  else { q with freqTimer := q.freqTimer - 1 }

/-- `WaveTick()` (R677). -/
def waveTick (q : WaveCh) : WaveCh :=
  if q.freqTimer ≤ 1 then { q with freqTimer := (2048 - freqOf q.freqLo q.ctl) * 2, pos := (q.pos + 1) % 32 }
  else { q with freqTimer := q.freqTimer - 1 }

/-- One clock of the LFSR; `narrow` is the 7-bit mode (R678). -/
def lfsrClock (l : BitVec 15) (narrow : Bool) : BitVec 15 :=
  let x := l.getLsbD 0 ^^ l.getLsbD 1
  let xb : BitVec 15 := if x then 1 else 0
  let l' := (l >>> 1) ||| (xb <<< 14)
  if narrow then (l' &&& ~~~(0x40 : BitVec 15)) ||| (xb <<< 6) else l'

/-- `NoiseTick()` (R678). -/
def noiseTick (q : NoiseCh) : NoiseCh :=
  if q.freqTimer ≤ 1 then
    { q with
      freqTimer := noisePeriod q.poly
      lfsr := if field q.poly 7 4 < 14 then lfsrClock q.lfsr (q.poly.getLsbD 3) else q.lfsr }
  else { q with freqTimer := q.freqTimer - 1 }

/-- The output of a square channel (R676, R682). -/
def squareOut (q : Square) : Nat :=
  if q.enabled && q.dac then dutyBit (field q.duty 7 6) q.dutyPos * q.volume else 0

/-- The current 4-bit wave sample: the high nibble first (R66, R677). -/
def waveSample (s : State) : Nat :=
  let b := peek s .wave (s.apu.ch3.pos / 2)
  if s.apu.ch3.pos % 2 = 0 then b.toNat / 16 else b.toNat % 16

/-- The output of the wave channel (R677, R682). -/
def waveOut (s : State) : Nat :=
  let q := s.apu.ch3
  if q.enabled && q.dac then
    match field q.level 6 5 with
    | 0 => 0
    | k => waveSample s / 2 ^ (k - 1)
  else 0

/-- The output of the noise channel (R678, R682). -/
def noiseOut (q : NoiseCh) : Nat :=
  if q.enabled && q.dac then bitNat (!q.lfsr.getLsbD 0) * q.volume else 0

/-- One side of the mixer: the outputs NR51 routes, times the master volume plus 1 (R683). -/
def mixSide (s : State) (shift : Nat) (volume : Nat) : Nat :=
  (volume + 1)
    * (bitNat (s.apu.nr51.getLsbD shift) * squareOut s.apu.ch1
      + bitNat (s.apu.nr51.getLsbD (shift + 1)) * squareOut s.apu.ch2
      + bitNat (s.apu.nr51.getLsbD (shift + 2)) * waveOut s
      + bitNat (s.apu.nr51.getLsbD (shift + 3)) * noiseOut s.apu.ch4)

/-- `Mix()`: the stereo pair (L, R) (R683). -/
def mix (s : State) : Nat × Nat :=
  if s.apu.power then (mixSide s 4 (field s.apu.nr50 6 4), mixSide s 0 (field s.apu.nr50 2 0)) else (0, 0)

/-- `SampleTick()`, once per dot whether or not the APU is powered (R684). -/
def sampleTick (s : State) : State :=
  if s.apu.sampleAcc + 1 = s.params.samplePeriod then
    let buf := s.apu.sampleBuf ++ [mix s]
    if buf.length = s.params.sampleCapacity then
      callBack { s with apu := { s.apu with sampleAcc := 0, sampleBuf := [] } } (.samples buf)
    else { s with apu := { s.apu with sampleAcc := 0, sampleBuf := buf } }
  else { s with apu := { s.apu with sampleAcc := s.apu.sampleAcc + 1 } }

/-- The frame sequencer and the channels, one dot while powered (R670). -/
def apuClock (u : Apu) : Apu :=
  let u := frameSeqTick u
  { u with ch1 := squareTick u.ch1, ch2 := squareTick u.ch2, ch3 := waveTick u.ch3, ch4 := noiseTick u.ch4 }

/-- `ApuDot()`, once per dot (R670). -/
def apuDot (s : State) : State :=
  let s := sampleTick s
  if s.apu.power then { s with apu := apuClock s.apu } else s

/-- `Trigger(n)` of a square channel (R679). -/
def squareTrigger (q : Square) : Square :=
  { q with
    enabled := q.dac
    length := if q.length = 0 then 64 else q.length
    freqTimer := (2048 - squareFreq q) * 4
    volume := field q.env 7 4
    envTimer := field q.env 2 0 }

/-- `Trigger(1)`, with the sweep (R679). -/
def trigger1 (u : Apu) : Apu :=
  let w :=
    { u.sweep with
      shadow := squareFreq u.ch1
      timer := sweepReload u.sweep.nr10
      enabled := decide (field u.sweep.nr10 6 4 ≠ 0) || decide (field u.sweep.nr10 2 0 ≠ 0) }
  let u := { u with ch1 := squareTrigger u.ch1, sweep := w }
  if field u.sweep.nr10 2 0 ≠ 0 then sweepCalc u else u

/-- `Trigger(3)` (R679). -/
def waveTrigger (q : WaveCh) : WaveCh :=
  { q with
    enabled := q.dac
    length := if q.length = 0 then 256 else q.length
    freqTimer := (2048 - freqOf q.freqLo q.ctl) * 2
    pos := 0 }

/-- `Trigger(4)` (R679). -/
def noiseTrigger (q : NoiseCh) : NoiseCh :=
  { q with
    enabled := q.dac
    length := if q.length = 0 then 64 else q.length
    freqTimer := noisePeriod q.poly
    volume := field q.env 7 4
    envTimer := field q.env 2 0
    lfsr := 0x7FFF }

/-- A write to NRn1: the duty bits, and the length load `64 - v[5:0]` (R672, R681). -/
def squareWriteDuty (q : Square) (v : Byte) : Square := { q with duty := v &&& 0xC0, length := 64 - field v 5 0 }

/-- A write to NRn2: the envelope register, and the DAC (R680). -/
def squareWriteEnv (q : Square) (v : Byte) : Square :=
  let dac := decide (v &&& 0xF8 ≠ 0)
  { q with env := v, dac := dac, enabled := q.enabled && dac }

/-- A write to NRn3 (R681). -/
def squareWriteFreq (q : Square) (v : Byte) : Square := { q with freqLo := v }

/-- A write to NRn4, the stored bits (R681). -/
def squareWriteCtl (q : Square) (v : Byte) : Square := { q with ctl := v &&& 0x47 }

/-- Power off: every register 0xFF10-0xFF25 cleared, the channels stopped (R685). -/
def apuPowerOff (u : Apu) : Apu :=
  let off (q : Square) : Square :=
    { q with
      duty := 0, env := 0, freqLo := 0, ctl := 0, enabled := false, dac := false, length := 0, freqTimer := 0
      volume := 0, envTimer := 0 }
  { u with
    sweep := { nr10 := 0, timer := 0, shadow := 0, enabled := false }
    ch1 := off u.ch1
    ch2 := off u.ch2
    ch3 :=
      { u.ch3 with
        dacReg := 0, level := 0, freqLo := 0, ctl := 0, enabled := false, dac := false, length := 0, freqTimer := 0 }
    ch4 :=
      { u.ch4 with
        env := 0, poly := 0, ctl := 0, enabled := false, dac := false, length := 0, freqTimer := 0, volume := 0
        envTimer := 0 }
    nr50 := 0
    nr51 := 0
    power := false }

/-- Power on: the sequencer restarts at step 0 and the positions at 0 (R685). -/
def apuPowerOn (u : Apu) : Apu :=
  { u with
    fsStep := 0
    fsAcc := 0
    ch1 := { u.ch1 with dutyPos := 0 }
    ch2 := { u.ch2 with dutyPos := 0 }
    ch3 := { u.ch3 with pos := 0 }
    power := true }

/-- A CPU write to NR52: only bit 7 is stored (R685). -/
def nr52Write (u : Apu) (v : Byte) : Apu :=
  match u.power, v.getLsbD 7 with
  | true, false => apuPowerOff u
  | false, true => apuPowerOn u
  | _, _ => u

/-- The NR52 read value (R68, R685). -/
def nr52Read (u : Apu) : Byte :=
  0x70 ||| bitAt 7 u.power ||| bitAt 3 u.ch4.enabled ||| bitAt 2 u.ch3.enabled ||| bitAt 1 u.ch2.enabled
    ||| bitAt 0 u.ch1.enabled

end Sys2Proof.Machine
end

