-- ==== Sys2Proof/Machine/TimerUnit.lean ====
section
/-! DEFINITION. The divider and timer (60_exceptions.md R620-R622), the joypad lines (R630, R631) and the serial port
with no partner (R635). -/

namespace Sys2Proof.Machine

/-- The divider bit TAC[1:0] selects: 9, 3, 5 or 7 (R54, R621). -/
def timerBit (tac : BitVec 3) : Nat :=
  match tac.toNat % 4 with
  | 0 => 9
  | 1 => 3
  | 2 => 5
  | _ => 7

/-- The timer's clock signal `TAC[2] & div_counter[sel]` (R621). -/
def timerClock (t : Timer) : Bool := t.tac.getLsbD 2 && t.divCounter.getLsbD (timerBit t.tac)

/-- `TimaIncrement()` (R622): on overflow TIMA reloads from TMA and the timer requests. -/
def timaIncrement (s : State) : State :=
  if s.timer.tima = 0xFF then request { s with timer := { s.timer with tima := s.timer.tma } } 2
  else { s with timer := { s.timer with tima := s.timer.tima + 1 } }

/-- `TimerEdgeCheck()` (R621): a falling edge of the clock signal increments TIMA. -/
def timerEdgeCheck (s : State) : State :=
  let level := timerClock s.timer
  let s := if s.timer.signal && !level then timaIncrement s else s
  { s with timer := { s.timer with signal := level } }

/-- Set the divider to a value and look for the edge (R620, R621). -/
def setDivider (s : State) (v : BitVec 16) : State :=
  timerEdgeCheck { s with timer := { s.timer with divCounter := v } }

/-- `TimerTick()`, once per CPU T-cycle (R620). -/
def timerTick (s : State) : State := setDivider s (s.timer.divCounter + 1)

/-- The direction pad as a mask {Down, Up, Left, Right}, 1 = pressed (R51). -/
def dpadMask (b : Buttons) : BitVec 4 :=
  BitVec.ofBool b.down ++ BitVec.ofBool b.up ++ BitVec.ofBool b.left ++ BitVec.ofBool b.right

/-- The action buttons as a mask {Start, Select, B, A}, 1 = pressed (R51). -/
def actionMask (b : Buttons) : BitVec 4 :=
  BitVec.ofBool b.start ++ BitVec.ofBool b.select ++ BitVec.ofBool b.btnB ++ BitVec.ofBool b.btnA

/-- The P1 input lines, 0 = pressed; bit 4 of P1 selects the pad and bit 5 the buttons when 0 (R51). -/
def p1Lines (j : Joypad) : BitVec 4 :=
  ~~~((if j.select.getLsbD 0 then 0 else dpadMask j.buttons)
    ||| (if j.select.getLsbD 1 then 0 else actionMask j.buttons))

/-- The P1 read value `0xC0 | stored[5:4] << 4 | lines` (R51). -/
def p1Read (j : Joypad) : Byte := (0b11#2 ++ j.select) ++ p1Lines j

/-- Recompute the lines; a line that falls requests the joypad interrupt (R630). -/
def joypadCheck (s : State) : State :=
  let now := p1Lines s.joypad
  let s' := { s with joypad := { s.joypad with lines := now } }
  if s.joypad.lines &&& ~~~now = 0 then s' else request s' 4

/-- The implemented bits of SC: 7 and 0, and 1 in CGB mode (R55, log 20). -/
def scMask (cgb : Bool) : Byte := if cgb then 0x83 else 0x81

/-- A CPU write to SC (R635). -/
def scWrite (s : State) (v : Byte) : State :=
  let s := { s with serial := { s.serial with sc := v &&& scMask (cgbMode s) } }
  if v.getLsbD 7 && v.getLsbD 0 then { s with serial := { s.serial with active := true, bits := 0, acc := 0 } }
  else if !v.getLsbD 7 then { s with serial := { s.serial with active := false } }
  else s

/-- T-cycles per serial bit (R635). -/
def serialPeriod (s : State) : Nat := if cgbMode s && s.serial.sc.getLsbD 1 then 16 else 512

/-- `SerialTick()`, once per CPU T-cycle (R635); the unconnected line shifts in 1s. -/
def serialTick (s : State) : State :=
  if s.serial.active then
    if s.serial.acc + 1 = serialPeriod s then
      let p := { s.serial with acc := 0, sb := (s.serial.sb <<< 1) ||| 1, bits := s.serial.bits + 1 }
      if p.bits = 8 then request { s with serial := { p with active := false, sc := p.sc &&& 0x7F } } 3
      else { s with serial := p }
    else { s with serial := { s.serial with acc := s.serial.acc + 1 } }
  else s

end Sys2Proof.Machine
end

