-- ==== Sys2Proof/Machine/Video.lean ====
section
/-! DEFINITION. The PPU but for its clock: the STAT line (60_exceptions.md R656), LCD on and off (R647), tiles,
background, window and sprites (R642-R646), and drawing a line in DMG and CGB mode (R648, R652). -/

namespace Sys2Proof.Machine

/-- LCDC bit 7: LCD and PPU enable (R56). -/
def lcdOn (s : State) : Bool := s.ppu.lcdc.getLsbD 7

/-- The number of a mode in STAT[1:0] (R43, R640). -/
def modeNumber (m : PpuMode) : Nat :=
  match m with
  | .hblank => 0
  | .vblank => 1
  | .oamScan => 2
  | .pixelTransfer => 3

/-- `ly = LYC` (R656). -/
def lycMatch (p : Ppu) : Bool := decide (p.ly = p.lyc.toNat)

/-- The OR of the enabled STAT conditions while the LCD is on (R656). -/
def statCondition (p : Ppu) : Bool :=
  p.lcdc.getLsbD 7
    && ((p.stat.getLsbD 6 && lycMatch p) || (p.stat.getLsbD 5 && decide (p.mode = .oamScan))
      || (p.stat.getLsbD 4 && decide (p.mode = .vblank)) || (p.stat.getLsbD 3 && decide (p.mode = .hblank)))

/-- `StatUpdate()`: the rising edge of the STAT line requests the LCD STAT interrupt (R656). -/
def statUpdate (s : State) : State :=
  let line := statCondition s.ppu
  let s' := { s with ppu := { s.ppu with statLine := line } }
  if line && !s.ppu.statLine then request s' 1 else s'

/-- The STAT read value (R57, R647). -/
def statRead (s : State) : Byte :=
  0x80 ||| s.ppu.stat ||| bitAt 2 (lycMatch s.ppu)
    ||| (if lcdOn s then BitVec.ofNat 8 (modeNumber s.ppu.mode) else 0)

/-- The LY read value: `ly` while the LCD is on, else 0 (R657). -/
def lyRead (s : State) : Byte := if lcdOn s then BitVec.ofNat 8 s.ppu.ly else 0

/-- A CPU write to LCDC: storing it, and the LCD switching off or on (R56, R647, R656). -/
def lcdcWrite (s : State) (v : Byte) : State :=
  let p := { s.ppu with lcdc := v }
  match s.ppu.lcdc.getLsbD 7, v.getLsbD 7 with
  | true, false => statUpdate { s with ppu := { p with ly := 0, dot := 0, mode := .hblank } }
  | false, true =>
    statUpdate
      { s with ppu := { p with ly := 0, dot := 0, mode := .oamScan, windowLine := 0, windowDrew := false } }
  | _, _ => statUpdate { s with ppu := p }

/-- The selected VRAM bank `vbk` (R111). -/
def vramBank (s : State) : Nat := if cgbMode s then s.sel.vbk.toNat else 0

/-- `VramByte(bank, a)` at offset `a - 0x8000` in the bank (R642). -/
def vramByte (s : State) (bank off : Nat) : Byte := peek s .vram (bank * 0x2000 + off)

/-- `ColorId(lo, hi, c)` of column c, 0 leftmost (R642). -/
def colorId (lo hi : Byte) (c : Nat) : Nat := 2 * bitNat (hi.getLsbD (7 - c)) + bitNat (lo.getLsbD (7 - c))

/-- `BgTileAddr(idx)` as an offset in the bank: unsigned from 0x8000, or signed from 0x9000 (R642). -/
def bgTileOffset (lcdc idx : Byte) : Nat :=
  if lcdc.getLsbD 4 then 16 * idx.toNat
  else if idx.toNat < 128 then 0x1000 + 16 * idx.toNat
  else 0x0800 + 16 * (idx.toNat - 128)

/-- A background or window pixel: its colour id and its attribute byte. -/
structure BgDot where
  id : Nat
  attr : Byte
  deriving DecidableEq, Repr

/-- The pixel (bx, by) of the tile map at offset `base` (R643, R649). -/
def mapPixel (s : State) (base bx by_ : Nat) : BgDot :=
  let m := base + 32 * (by_ / 8) + bx / 8
  let idx := vramByte s 0 m
  let attr := if cgbMode s then vramByte s 1 m else 0x00
  let row := if attr.getLsbD 6 then 7 - by_ % 8 else by_ % 8
  let col := if attr.getLsbD 5 then 7 - bx % 8 else bx % 8
  let a := bgTileOffset s.ppu.lcdc idx + 2 * row
  let b := bitNat (attr.getLsbD 3)
  { id := colorId (vramByte s b a) (vramByte s b (a + 1)) col, attr := attr }

/-- `BgPixel(x)` of the current line (R643); map offset 0x1C00 is address 0x9C00. -/
def bgPixel (s : State) (x : Nat) : BgDot :=
  mapPixel s (if s.ppu.lcdc.getLsbD 3 then 0x1C00 else 0x1800) ((x + s.ppu.scx.toNat) % 256)
    ((s.ppu.ly + s.ppu.scy.toNat) % 256)

/-- `WindowOn(x)` (R644). -/
def windowOn (s : State) (x : Nat) : Bool :=
  s.ppu.lcdc.getLsbD 5 && decide (s.ppu.wy.toNat ≤ s.ppu.ly) && decide (s.ppu.wx.toNat ≤ 166)
    && decide (s.ppu.wx.toNat ≤ x + 7) && (cgbMode s || s.ppu.lcdc.getLsbD 0)

/-- `WindowPixel(x)` (R644). -/
def windowPixel (s : State) (x : Nat) : BgDot :=
  mapPixel s (if s.ppu.lcdc.getLsbD 6 then 0x1C00 else 0x1800) (x + 7 - s.ppu.wx.toNat) s.ppu.windowLine

/-- Byte `k` of OAM entry `i`: 0 = Y, 1 = X, 2 = tile, 3 = attributes (R650). -/
def oamByte (s : State) (i k : Nat) : Byte := peek s .oam (4 * i + k)

/-- The sprite height of LCDC bit 2 (R56, R645). -/
def objHeight (lcdc : Byte) : Nat := if lcdc.getLsbD 2 then 16 else 8

/-- Sprite `i` covers the current line, by Y alone (R645). -/
def spriteOnLine (s : State) (h i : Nat) : Bool :=
  let y := (oamByte s i 0).toNat
  decide (y ≤ s.ppu.ly + 16) && decide (s.ppu.ly + 16 < y + h)

/-- `SelectSprites()`: the first ten in OAM order (R645). -/
def selectSprites (s : State) : List Nat :=
  ((List.range 40).filter (spriteOnLine s (objHeight s.ppu.lcdc))).take 10

/-- An opaque sprite pixel: its colour id and the sprite's attribute byte. -/
structure ObjDot where
  id : Nat
  attr : Byte
  deriving DecidableEq, Repr

/-- A sprite's tile byte at VRAM offset `off`; outside the bank the spec states no value, and it is free (log 6). -/
def spriteByte (s : State) (bank : Nat) (off : Int) : Byte :=
  if 0 ≤ off ∧ off < 0x2000 then vramByte s bank off.toNat else Config.offVram bank off

/-- Sprite `i` covers column `x` (R646). -/
def spriteAtColumn (s : State) (x i : Nat) : Bool :=
  let sx := (oamByte s i 1).toNat
  decide (sx ≤ x + 8) && decide (x + 8 < sx + 8)

/-- The colour id sprite `i` has at column `x`, 0 transparent (R646). -/
def spriteColor (s : State) (x i : Nat) : Nat :=
  let attr := oamByte s i 3
  let h : Int := s.ppu.spriteHeight
  let row0 : Int := (s.ppu.ly : Int) + 16 - ((oamByte s i 0).toNat : Int)
  let row := if attr.getLsbD 6 then h - 1 - row0 else row0
  let tile := if s.ppu.spriteHeight = 16 then oamByte s i 2 &&& 0xFE else oamByte s i 2
  let col0 := x + 8 - (oamByte s i 1).toNat
  let col := if attr.getLsbD 5 then 7 - col0 else col0
  let b := if cgbMode s then bitNat (attr.getLsbD 3) else 0
  let a : Int := 16 * (tile.toNat : Int) + 2 * row
  colorId (spriteByte s b a) (spriteByte s b (a + 1)) col

/-- Put sprite `i` in a list ordered by (X, index) (R646, D30). -/
def insertByX (s : State) (i : Nat) : List Nat → List Nat
  | [] => [i]
  | j :: rest =>
    let xi := (oamByte s i 1).toNat
    let xj := (oamByte s j 1).toNat
    if xi < xj ∨ (xi = xj ∧ i ≤ j) then i :: j :: rest else j :: insertByX s i rest

/-- Put sprite `i` in a list ordered by index (R646, D30). -/
def insertByIndex (i : Nat) : List Nat → List Nat
  | [] => [i]
  | j :: rest => if i ≤ j then i :: j :: rest else j :: insertByIndex i rest

/-- The candidates in priority order: by X then index in DMG mode, by index in CGB mode (R646). -/
def spriteOrder (s : State) : List Nat → List Nat
  | [] => []
  | i :: rest =>
    if cgbMode s then insertByIndex i (spriteOrder s rest) else insertByX s i (spriteOrder s rest)

/-- The first opaque pixel of the candidates (R646). -/
def firstOpaque (s : State) (x : Nat) : List Nat → Option ObjDot
  | [] => none
  | i :: rest =>
    if spriteColor s x i = 0 then firstOpaque s x rest
    else some { id := spriteColor s x i, attr := oamByte s i 3 }

/-- `SpritePixel(x)` (R646). -/
def spritePixel (s : State) (x : Nat) : Option ObjDot :=
  if s.ppu.lcdc.getLsbD 1 then firstOpaque s x (spriteOrder s (s.ppu.sprites.filter (spriteAtColumn s x)))
  else none

/-- The shade a DMG palette register gives a colour id (R59, R648). -/
def paletteShade (pal : Byte) (id : Nat) : Nat := pal.toNat / 2 ^ (2 * id) % 4

/-- A palette RAM colour, little-endian RGB555, bit 15 ignored (R651). -/
def paletteColor (s : State) (r : Region) (pal id : Nat) : Pixel :=
  (joinBytes (peek s r (8 * pal + 2 * id + 1)) (peek s r (8 * pal + 2 * id))).extractLsb' 0 15

/-- The pixel at column `x` in DMG mode (R648). -/
def dmgPixel (s : State) (x : Nat) : Pixel :=
  let bid := if s.ppu.lcdc.getLsbD 0 then (if windowOn s x then windowPixel s x else bgPixel s x).id else 0
  let bshade := if s.ppu.lcdc.getLsbD 0 then paletteShade s.ppu.bgp bid else 0
  match spritePixel s x with
  | none => BitVec.ofNat 15 bshade
  | some o =>
    if !o.attr.getLsbD 7 || decide (bid = 0) then
      BitVec.ofNat 15 (paletteShade (if o.attr.getLsbD 4 then s.ppu.obp1 else s.ppu.obp0) o.id)
    else BitVec.ofNat 15 bshade

/-- The pixel at column `x` in CGB mode (R652). -/
def cgbPixel (s : State) (x : Nat) : Pixel :=
  let bg := if windowOn s x then windowPixel s x else bgPixel s x
  let bgColor := paletteColor s .bgPal (field bg.attr 2 0) bg.id
  match spritePixel s x with
  | none => bgColor
  | some o =>
    let objColor := paletteColor s .objPal (field o.attr 2 0) o.id
    if !s.ppu.lcdc.getLsbD 0 then objColor
    else if decide (bg.id ≠ 0) && (bg.attr.getLsbD 7 || o.attr.getLsbD 7) then bgColor
    else objColor

/-- The 160 pixels of the current line. -/
def linePixels (s : State) : List Pixel :=
  (List.range 160).map fun x => if cgbMode s then cgbPixel s x else dmgPixel s x

/-- `RenderLine()` (R648, R652): draws the line unless the frame is skipped (R655), and notes whether the window drew
a pixel (R644). -/
def renderLine (s : State) : State :=
  let drew := s.ppu.windowDrew || (List.range 160).any (windowOn s)
  let frame := if s.ppu.skipFrame then s.ppu.frame else storeWrite blankRow s.ppu.frame s.ppu.ly (linePixels s)
  { s with ppu := { s.ppu with windowDrew := drew, frame := frame } }

/-- `FrameStart()` (R655). -/
def frameStart (s : State) : State :=
  { s with ppu := { s.ppu with skipFrame := s.ppu.skipPending, skipPending := false } }

/-- A palette index register after an access with auto-increment: bits 5:0 wrap from 0x3F to 0 (R654). -/
def paletteStep (idx : Byte) : Byte :=
  if idx.getLsbD 7 then 0x80 ||| ((idx + 1) &&& 0x3F) else idx

end Sys2Proof.Machine
end

