-- ==== Sys2Proof/Machine/Io.lean ====
section
/-! DEFINITION. The IO registers at 0xFF00-0xFF7F: which address names which register (10_state.md R51-R69), what a
read gives (`stored | read_mask`, R50), and the writes that touch one unit only. -/

namespace Sys2Proof.Machine

/-- The IO registers of R51-R68. -/
inductive IoReg where
  | p1
  | sb
  | sc
  | div
  | tima
  | tma
  | tac
  | iflag
  | nr10
  | nr11
  | nr12
  | nr13
  | nr14
  | nr21
  | nr22
  | nr23
  | nr24
  | nr30
  | nr31
  | nr32
  | nr33
  | nr34
  | nr41
  | nr42
  | nr43
  | nr44
  | nr50
  | nr51
  | nr52
  /-- Byte k of wave RAM. -/
  | wave (k : Nat)
  | lcdc
  | stat
  | scy
  | scx
  | ly
  | lyc
  | dma
  | bgp
  | obp0
  | obp1
  | wy
  | wx
  | key1
  | vbk
  | hdma1
  | hdma2
  | hdma3
  | hdma4
  | hdma5
  | bcps
  | bcpd
  | ocps
  | ocpd
  | svbk
  deriving DecidableEq, Repr

/-- The addresses 0xFF00 + n below the LCD registers (R51-R55, R52, R64-R68). -/
def ioTableLow : List (Nat × IoReg) :=
  [(0x00, .p1), (0x01, .sb), (0x02, .sc), (0x04, .div), (0x05, .tima), (0x06, .tma), (0x07, .tac), (0x0F, .iflag)]

/-- The APU registers (R64-R68). -/
def ioTableApu : List (Nat × IoReg) :=
  [(0x10, .nr10), (0x11, .nr11), (0x12, .nr12), (0x13, .nr13), (0x14, .nr14), (0x16, .nr21), (0x17, .nr22),
   (0x18, .nr23), (0x19, .nr24), (0x1A, .nr30), (0x1B, .nr31), (0x1C, .nr32), (0x1D, .nr33), (0x1E, .nr34),
   (0x20, .nr41), (0x21, .nr42), (0x22, .nr43), (0x23, .nr44), (0x24, .nr50), (0x25, .nr51), (0x26, .nr52)]

/-- The PPU registers (R56-R59). -/
def ioTablePpu : List (Nat × IoReg) :=
  [(0x40, .lcdc), (0x41, .stat), (0x42, .scy), (0x43, .scx), (0x44, .ly), (0x45, .lyc), (0x46, .dma), (0x47, .bgp),
   (0x48, .obp0), (0x49, .obp1), (0x4A, .wy), (0x4B, .wx)]

/-- The registers that exist only in CGB mode (R60-R63, R69). -/
def ioTableCgb : List (Nat × IoReg) :=
  [(0x4D, .key1), (0x4F, .vbk), (0x51, .hdma1), (0x52, .hdma2), (0x53, .hdma3), (0x54, .hdma4), (0x55, .hdma5),
   (0x68, .bcps), (0x69, .bcpd), (0x6A, .ocps), (0x6B, .ocpd), (0x70, .svbk)]

/-- The register at 0xFF00 + n, none where the address is unmapped (R69). -/
def ioReg (cgb : Bool) (n : Nat) : Option IoReg :=
  if 0x30 ≤ n ∧ n < 0x40 then some (.wave (n - 0x30))
  else (ioTableLow ++ ioTableApu ++ ioTablePpu ++ (if cgb then ioTableCgb else [])).lookup n

/-- What a read of a register gives (R50-R68, R190, R654). Reading changes no state (R106). -/
def ioRegRead (s : State) (r : IoReg) : Byte :=
  match r with
  | .p1 => p1Read s.joypad
  | .sb => s.serial.sb
  | .sc => s.serial.sc ||| ~~~scMask (cgbMode s)
  | .div => hiByte s.timer.divCounter
  | .tima => s.timer.tima
  | .tma => s.timer.tma
  | .tac => 0xF8 ||| s.timer.tac.setWidth 8
  | .iflag => 0xE0 ||| s.irq.flag.setWidth 8
  | .nr10 => 0x80 ||| s.apu.sweep.nr10
  | .nr11 => 0x3F ||| s.apu.ch1.duty
  | .nr12 => s.apu.ch1.env
  | .nr13 => 0xFF
  | .nr14 => 0xBF ||| s.apu.ch1.ctl
  | .nr21 => 0x3F ||| s.apu.ch2.duty
  | .nr22 => s.apu.ch2.env
  | .nr23 => 0xFF
  | .nr24 => 0xBF ||| s.apu.ch2.ctl
  | .nr30 => 0x7F ||| s.apu.ch3.dacReg
  | .nr31 => 0xFF
  | .nr32 => 0x9F ||| s.apu.ch3.level
  | .nr33 => 0xFF
  | .nr34 => 0xBF ||| s.apu.ch3.ctl
  | .nr41 => 0xFF
  | .nr42 => s.apu.ch4.env
  | .nr43 => s.apu.ch4.poly
  | .nr44 => 0xBF ||| s.apu.ch4.ctl
  | .nr50 => s.apu.nr50
  | .nr51 => s.apu.nr51
  | .nr52 => nr52Read s.apu
  | .wave k => peek s .wave k
  | .lcdc => s.ppu.lcdc
  | .stat => statRead s
  | .scy => s.ppu.scy
  | .scx => s.ppu.scx
  | .ly => lyRead s
  | .lyc => s.ppu.lyc
  | .dma => s.ppu.dma
  | .bgp => s.ppu.bgp
  | .obp0 => s.ppu.obp0
  | .obp1 => s.ppu.obp1
  | .wy => s.ppu.wy
  | .wx => s.ppu.wx
  | .key1 => 0x7E ||| bitAt 7 s.cpu.doubleSpeed ||| bitAt 0 s.sel.speedArmed
  | .vbk => 0xFE ||| s.sel.vbk.setWidth 8
  | .hdma1 => 0xFF
  | .hdma2 => 0xFF
  | .hdma3 => 0xFF
  | .hdma4 => 0xFF
  | .hdma5 => bitAt 7 (!s.hdma.active) ||| s.hdma.blocks.setWidth 8
  | .bcps => 0x40 ||| s.ppu.bcps
  | .bcpd => peek s .bgPal (field s.ppu.bcps 5 0)
  | .ocps => 0x40 ||| s.ppu.ocps
  | .ocpd => peek s .objPal (field s.ppu.ocps 5 0)
  | .svbk => 0xF8 ||| s.sel.svbk.setWidth 8

/-- `IoRead(0xFF00 + n)` (R50, R69). -/
def ioRead (s : State) (n : Nat) : Byte :=
  match ioReg (cgbMode s) n with
  | some r => ioRegRead s r
  | none => 0xFF

/-- A CPU write to an APU register 0xFF10-0xFF25 while powered (R681, R672, R679, R680). Length loads keep only what
the counter holds, NR31 and NR41 store no bits of their own (log 21). -/
def apuRegWrite (u : Apu) (r : IoReg) (v : Byte) : Apu :=
  match r with
  | .nr10 => { u with sweep := { u.sweep with nr10 := v &&& 0x7F } }
  | .nr11 => { u with ch1 := squareWriteDuty u.ch1 v }
  | .nr12 => { u with ch1 := squareWriteEnv u.ch1 v }
  | .nr13 => { u with ch1 := squareWriteFreq u.ch1 v }
  | .nr14 =>
    let u := { u with ch1 := squareWriteCtl u.ch1 v }
    if v.getLsbD 7 then trigger1 u else u
  | .nr21 => { u with ch2 := squareWriteDuty u.ch2 v }
  | .nr22 => { u with ch2 := squareWriteEnv u.ch2 v }
  | .nr23 => { u with ch2 := squareWriteFreq u.ch2 v }
  | .nr24 =>
    let q := squareWriteCtl u.ch2 v
    { u with ch2 := if v.getLsbD 7 then squareTrigger q else q }
  | .nr30 =>
    { u with
      ch3 := { u.ch3 with dacReg := v &&& 0x80, dac := v.getLsbD 7, enabled := u.ch3.enabled && v.getLsbD 7 } }
  | .nr31 => { u with ch3 := { u.ch3 with length := 256 - v.toNat } }
  | .nr32 => { u with ch3 := { u.ch3 with level := v &&& 0x60 } }
  | .nr33 => { u with ch3 := { u.ch3 with freqLo := v } }
  | .nr34 =>
    let q := { u.ch3 with ctl := v &&& 0x47 }
    { u with ch3 := if v.getLsbD 7 then waveTrigger q else q }
  | .nr41 => { u with ch4 := { u.ch4 with length := 64 - field v 5 0 } }
  | .nr42 =>
    let dac := decide (v &&& 0xF8 ≠ 0)
    { u with ch4 := { u.ch4 with env := v, dac := dac, enabled := u.ch4.enabled && dac } }
  | .nr43 => { u with ch4 := { u.ch4 with poly := v } }
  | .nr44 =>
    let q := { u.ch4 with ctl := v &&& 0x40 }
    { u with ch4 := if v.getLsbD 7 then noiseTrigger q else q }
  | .nr50 => { u with nr50 := v }
  | .nr51 => { u with nr51 := v }
  | _ => u

/-- A CPU write to an APU register: ignored while powered off, NR52 apart (R681, R685). -/
def apuWrite (u : Apu) (r : IoReg) (v : Byte) : Apu :=
  if r = .nr52 then nr52Write u v else if u.power then apuRegWrite u r v else u

/-- A CPU write to a palette index register: bits 7 and 5:0 (R63, R654). -/
def paletteIndexWrite (v : Byte) : Byte := v &&& 0xBF

/-- A CPU write to BCPD in CGB mode that is not locked out (R654). -/
def bcpdWrite (s : State) (v : Byte) : State :=
  let s' := poke s .bgPal (field s.ppu.bcps 5 0) v
  { s' with ppu := { s'.ppu with bcps := paletteStep s.ppu.bcps } }

/-- A CPU write to OCPD in CGB mode that is not locked out (R654). -/
def ocpdWrite (s : State) (v : Byte) : State :=
  let s' := poke s .objPal (field s.ppu.ocps 5 0) v
  { s' with ppu := { s'.ppu with ocps := paletteStep s.ppu.ocps } }

/-- A CPU write to TAC: the timer edge is looked for at once (R621). -/
def tacWrite (s : State) (v : Byte) : State :=
  timerEdgeCheck { s with timer := { s.timer with tac := v.extractLsb' 0 3 } }

/-- A CPU write to P1: the select bits, then the lines (R51, R630). -/
def p1Write (s : State) (v : Byte) : State :=
  joypadCheck { s with joypad := { s.joypad with select := v.extractLsb' 4 2 } }

/-- A CPU write to STAT: bits 6:3, then the STAT line (R57, R656). -/
def statWrite (s : State) (v : Byte) : State := statUpdate { s with ppu := { s.ppu with stat := v &&& 0x78 } }

/-- A CPU write to LYC: then the STAT line (R58, R656, R657). -/
def lycWrite (s : State) (v : Byte) : State := statUpdate { s with ppu := { s.ppu with lyc := v } }

end Sys2Proof.Machine
end

