-- ==== Sys2Proof/Machine/Bus.lean ====
section
/-! DEFINITION. The memory-map router (20_memory.md R100-R112): where an address leads, CPU reads, the PPU access
lockout, and the reads of the DMA controllers. -/

namespace Sys2Proof.Machine

/-- The WRAM bank seen at 0xD000-0xDFFF (R112). -/
def wramBank (s : State) : Nat := if cgbMode s ∧ s.sel.svbk ≠ 0 then s.sel.svbk.toNat else 1

/-- Where an address leads (R101). -/
inductive Target where
  /-- 0x0000-0x7FFF: cartridge ROM to a read, MBC registers to a write. -/
  | mbc (n : Nat)
  /-- 0xA000-0xBFFF: cartridge RAM or RTC. -/
  | ext (n : Nat)
  /-- A byte of VRAM, WRAM, OAM or HRAM. -/
  | cell (r : Region) (i : Nat)
  /-- 0xFEA0-0xFEFF. -/
  | unusable
  /-- An IO register address 0xFF00 + n. -/
  | io (n : Nat)
  /-- 0xFFFF. -/
  | ie
  deriving DecidableEq, Repr

/-- An echo address 0xE000-0xFDFF is the address minus 0x2000 (R107). -/
def unecho (n : Nat) : Nat := if 0xE000 ≤ n ∧ n < 0xFE00 then n - 0x2000 else n

/-- The address decode of R101-R103. -/
def route (s : State) (a : Word) : Target :=
  let n := unecho a.toNat
  if n < 0x8000 then .mbc n
  else if n < 0xA000 then .cell .vram (vramBank s * 0x2000 + (n - 0x8000))
  else if n < 0xC000 then .ext n
  else if n < 0xD000 then .cell .wram (n - 0xC000)
  else if n < 0xE000 then .cell .wram (wramBank s * 0x1000 + (n - 0xD000))
  else if n < 0xFEA0 then .cell .oam (n - 0xFE00)
  else if n < 0xFF00 then .unusable
  else if n < 0xFF80 then .io (n - 0xFF00)
  else if n < 0xFFFF then .cell .hram (n - 0xFF80)
  else .ie

/-- `MemReadNoLock(a)`: R102 without the lockout (R180). -/
def memReadNoLock (s : State) (a : Word) : Byte :=
  match route s a with
  | .mbc n => mbcReadRom s n
  | .ext n => mbcReadRam s n
  | .cell r i => peek s r i
  | .unusable => 0xFF
  | .io n => ioRead s n
  | .ie => s.irq.enable

/-- `LockedOut(a)` (R109). The step executes the instruction before the devices move, so the current mode is the mode
when the step began (log 17). -/
def lockedOut (s : State) (a : Word) : Bool :=
  s.params.accessLockout && lcdOn s
    && ((decide (0x8000 ≤ a.toNat ∧ a.toNat < 0xA000) && decide (s.ppu.mode = .pixelTransfer))
      || (decide (0xFE00 ≤ a.toNat ∧ a.toNat < 0xFEA0)
        && (decide (s.ppu.mode = .oamScan) || decide (s.ppu.mode = .pixelTransfer)))
      || (decide (a = 0xFF69 ∨ a = 0xFF6B) && decide (s.ppu.mode = .pixelTransfer)))

/-- `MemRead(a, 1)`, a CPU read (R102). It changes no state (R106). -/
def memRead (s : State) (a : Word) : Byte := if lockedOut s a then 0xFF else memReadNoLock s a

/-- `DmaRead(a)` (R180): never locked out, and 0xE000 and above is WRAM. -/
def dmaRead (s : State) (a : Word) : Byte := memReadNoLock s (if 0xE000 ≤ a.toNat then a - 0x2000 else a)

end Sys2Proof.Machine
end

