-- ==== Sys2Proof/Machine/Dma.lean ====
section
/-! DEFINITION. The DMA controllers: OAM DMA (20_memory.md R180) and the CGB transfers (R185-R190). -/

namespace Sys2Proof.Machine

/-- The copy of OAM DMA: `OAM[i] <- DmaRead((v << 8) + i)` for each i of the list, in order (R180). -/
def oamCopy (s : State) (v : Byte) (is : List Nat) : State :=
  is.foldl (fun s i => poke s .oam i (dmaRead s (joinBytes v 0 + BitVec.ofNat 16 i))) s

/-- A CPU write to DMA: it stores v, then copies 160 bytes at once (R180, R59). -/
def dmaWrite (s : State) (v : Byte) : State :=
  oamCopy { s with ppu := { s.ppu with dma := v } } v (List.range 160)

/-- A block source the hardware does not document (R187, I9, log 19). -/
def badSource (src : Word) : Bool :=
  decide (0x8000 ≤ src.toNat ∧ src.toNat < 0xA000) || decide (0xE000 ≤ src.toNat)

/-- Byte i of a block: what DmaRead gives, or a free byte for an undocumented source (R187, log 5). -/
def blockByte (s : State) (i : Nat) : Byte :=
  if badSource s.hdma.src then Config.freeByte (s.freeCount + i) else dmaRead s (s.hdma.src + BitVec.ofNat 16 i)

/-- The VRAM index of byte i of a block in bank `vbk`; the offset stays in the bank (R185, R187, log 18). -/
def blockIndex (s : State) (i : Nat) : Nat := vramBank s * 0x2000 + (s.hdma.dst.toNat + i) % 0x2000

/-- The 16 byte copies of a block, in order (R187). -/
def blockCopy (s : State) (is : List Nat) : State :=
  is.foldl (fun s i => poke s .vram (blockIndex s i) (blockByte s i)) s

/-- The registers after a block (R187). -/
def blockAdvance (h : Hdma) : Hdma :=
  { h with
    src := h.src + 16
    dst := h.dst + 16
    active := h.active && decide (h.blocks ≠ 0)
    blocks := if h.blocks = 0 then 0x7F else h.blocks - 1 }

/-- `HdmaBlock()` (R187). -/
def hdmaBlock (s : State) : State :=
  let s' := blockCopy s (List.range 16)
  { s' with
    hdma := blockAdvance s'.hdma
    freeCount := if badSource s.hdma.src then s'.freeCount + 16 else s'.freeCount }

/-- Blocks until the transfer is over, at most `k` (R189). -/
def hdmaBlocks : Nat → State → State
  | 0, s => s
  | k + 1, s => if s.hdma.active then hdmaBlocks k (hdmaBlock s) else s

/-- `GDMA_CYCLES(n)` (R6, R189); outside the table of 1 to 128 blocks, which no HDMA5 write reaches, 0 (log 30). -/
def gdmaCost (p : Params) (n : Nat) : Nat := p.gdmaCycles.getD (n - 1) 0

/-- `GdmaRun()`: at most 128 blocks, with their cost (R189). -/
def gdmaRun (s : State) : State := spend (hdmaBlocks 128 s) (gdmaCost s.params (s.hdma.blocks.toNat + 1))

/-- A CPU write to HDMA5 (R186). -/
def hdma5Write (s : State) (v : Byte) : State :=
  if s.hdma.active && s.hdma.hblank && !v.getLsbD 7 then { s with hdma := { s.hdma with active := false } }
  else if v.getLsbD 7 then
    { s with hdma := { s.hdma with blocks := v.extractLsb' 0 7, hblank := true, active := true } }
  else gdmaRun { s with hdma := { s.hdma with blocks := v.extractLsb' 0 7, hblank := false, active := true } }

/-- A CPU write to HDMA1 to HDMA4: the address registers (R185). -/
def hdmaAddrWrite (h : Hdma) (r : IoReg) (v : Byte) : Hdma :=
  match r with
  | .hdma1 => { h with src := joinBytes v (loByte h.src) }
  | .hdma2 => { h with src := joinBytes (hiByte h.src) (v &&& 0xF0) }
  | .hdma3 => { h with dst := v.extractLsb' 0 5 ++ h.dst.extractLsb' 0 8 }
  | .hdma4 => { h with dst := h.dst.extractLsb' 8 5 ++ (v &&& 0xF0) }
  | _ => h

/-- The H-Blank hook: one block on entering HBLANK while an H-Blank transfer is active (R188, R641). -/
def hblankHook (s : State) : State := if s.hdma.active && s.hdma.hblank then hdmaBlock s else s

end Sys2Proof.Machine
end

