-- ==== Sys2Proof/Machine/BusWrite.lean ====
section
/-! DEFINITION. CPU writes: the IO register writes with all their effects (10_state.md R50-R69) and `MemWrite`
(20_memory.md R103, R109). -/

namespace Sys2Proof.Machine

/-- The effect of a CPU write of v to an IO register (R50-R68). -/
def ioRegWrite (s : State) (r : IoReg) (v : Byte) : State :=
  match r with
  | .p1 => p1Write s v
  | .sb => { s with serial := { s.serial with sb := v } }
  | .sc => scWrite s v
  | .div => setDivider s 0
  | .tima => { s with timer := { s.timer with tima := v } }
  | .tma => { s with timer := { s.timer with tma := v } }
  | .tac => tacWrite s v
  | .iflag => { s with irq := { s.irq with flag := v.extractLsb' 0 5 } }
  | .wave k => poke s .wave k v
  | .lcdc => lcdcWrite s v
  | .stat => statWrite s v
  | .scy => { s with ppu := { s.ppu with scy := v } }
  | .scx => { s with ppu := { s.ppu with scx := v } }
  | .ly => s
  | .lyc => lycWrite s v
  | .dma => dmaWrite s v
  | .bgp => { s with ppu := { s.ppu with bgp := v } }
  | .obp0 => { s with ppu := { s.ppu with obp0 := v } }
  | .obp1 => { s with ppu := { s.ppu with obp1 := v } }
  | .wy => { s with ppu := { s.ppu with wy := v } }
  | .wx => { s with ppu := { s.ppu with wx := v } }
  | .key1 => { s with sel := { s.sel with speedArmed := v.getLsbD 0 } }
  | .vbk => { s with sel := { s.sel with vbk := v.extractLsb' 0 1 } }
  | .hdma5 => hdma5Write s v
  | .bcps => { s with ppu := { s.ppu with bcps := paletteIndexWrite v } }
  | .bcpd => bcpdWrite s v
  | .ocps => { s with ppu := { s.ppu with ocps := paletteIndexWrite v } }
  | .ocpd => ocpdWrite s v
  | .svbk => { s with sel := { s.sel with svbk := v.extractLsb' 0 3 } }
  | .hdma1 => { s with hdma := hdmaAddrWrite s.hdma .hdma1 v }
  | .hdma2 => { s with hdma := hdmaAddrWrite s.hdma .hdma2 v }
  | .hdma3 => { s with hdma := hdmaAddrWrite s.hdma .hdma3 v }
  | .hdma4 => { s with hdma := hdmaAddrWrite s.hdma .hdma4 v }
  | .nr10 => { s with apu := apuWrite s.apu .nr10 v }
  | .nr11 => { s with apu := apuWrite s.apu .nr11 v }
  | .nr12 => { s with apu := apuWrite s.apu .nr12 v }
  | .nr13 => { s with apu := apuWrite s.apu .nr13 v }
  | .nr14 => { s with apu := apuWrite s.apu .nr14 v }
  | .nr21 => { s with apu := apuWrite s.apu .nr21 v }
  | .nr22 => { s with apu := apuWrite s.apu .nr22 v }
  | .nr23 => { s with apu := apuWrite s.apu .nr23 v }
  | .nr24 => { s with apu := apuWrite s.apu .nr24 v }
  | .nr30 => { s with apu := apuWrite s.apu .nr30 v }
  | .nr31 => { s with apu := apuWrite s.apu .nr31 v }
  | .nr32 => { s with apu := apuWrite s.apu .nr32 v }
  | .nr33 => { s with apu := apuWrite s.apu .nr33 v }
  | .nr34 => { s with apu := apuWrite s.apu .nr34 v }
  | .nr41 => { s with apu := apuWrite s.apu .nr41 v }
  | .nr42 => { s with apu := apuWrite s.apu .nr42 v }
  | .nr43 => { s with apu := apuWrite s.apu .nr43 v }
  | .nr44 => { s with apu := apuWrite s.apu .nr44 v }
  | .nr50 => { s with apu := apuWrite s.apu .nr50 v }
  | .nr51 => { s with apu := apuWrite s.apu .nr51 v }
  | .nr52 => { s with apu := apuWrite s.apu .nr52 v }

/-- `IoWrite(0xFF00 + n, v)`: a write to an unmapped address is ignored (R50, R69). -/
def ioWrite (s : State) (n : Nat) (v : Byte) : State :=
  match ioReg (cgbMode s) n with
  | some r => ioRegWrite s r v
  | none => s

/-- What a locked-out write does: nothing, but that BCPD and OCPD still step their index (R109, R654). -/
def lockedWrite (s : State) (a : Word) : State :=
  if a = 0xFF69 ∧ cgbMode s then { s with ppu := { s.ppu with bcps := paletteStep s.ppu.bcps } }
  else if a = 0xFF6B ∧ cgbMode s then { s with ppu := { s.ppu with ocps := paletteStep s.ppu.ocps } }
  else s

/-- A write at a target of the router (R103). -/
def targetWrite (s : State) (t : Target) (v : Byte) : State :=
  match t with
  | .mbc n => mbcWrite s n v
  | .ext n => mbcWriteRam s n v
  | .cell r i => poke s r i v
  | .unusable => s
  | .io n => ioWrite s n v
  | .ie => { s with irq := { s.irq with enable := v } }

/-- `MemWrite(a, 1, v)`, a CPU write (R103). -/
def memWrite (s : State) (a : Word) (v : Byte) : State :=
  if lockedOut s a then lockedWrite s a else targetWrite s (route s a) v

end Sys2Proof.Machine
end

