-- ==== Sys2Proof/Machine/Flags.lean ====
section
/-! DEFINITION. Every result and flag computation of the instruction set, on values: operands become numbers, the sum is
exact, and the result is narrowed at the end (42_alu8.md R346-R348, R374-R381, 43_alu16.md R389-R393, 44 R396-R419). -/

namespace Sys2Proof.Machine

/-- The byte F = {Z, N, H, C, 0, 0, 0, 0} (R32). -/
def flagsByte (f : Flags) : Byte := bitAt 7 f.z ||| bitAt 6 f.n ||| bitAt 5 f.h ||| bitAt 4 f.c

/-- The flags a byte written to F gives; bits 3:0 are discarded (R32, R338). -/
def flagsOfByte (v : Byte) : Flags := { z := v.getLsbD 7, n := v.getLsbD 6, h := v.getLsbD 5, c := v.getLsbD 4 }

/-- `cond(cc)` (R449, R204). -/
def condHolds (cc : Cond) (f : Flags) : Bool :=
  match cc with
  | .nz => !f.z
  | .z => f.z
  | .nc => !f.c
  | .c => f.c

/-- `Add8(a, b, c)` (R346). -/
def add8 (a b : Byte) (c : Bool) : Byte × Flags :=
  let s := a.toNat + b.toNat + bitNat c
  let res := BitVec.ofNat 8 s
  (res,
   { z := decide (res = 0)
     n := false
     h := decide (a.toNat % 16 + b.toNat % 16 + bitNat c > 15)
     c := decide (s > 255) })

/-- `Sub8(a, b, c)` (R347). -/
def sub8 (a b : Byte) (c : Bool) : Byte × Flags :=
  let res := BitVec.ofInt 8 ((a.toNat : Int) - b.toNat - bitNat c)
  (res,
   { z := decide (res = 0)
     n := true
     h := decide (a.toNat % 16 < b.toNat % 16 + bitNat c)
     c := decide (a.toNat < b.toNat + bitNat c) })

/-- The flags of a logic result; H is set for AND only (R348). -/
def logicFlags (res : Byte) (h : Bool) : Flags := { z := decide (res = 0), n := false, h := h, c := false }

/-- The new A and flags of an 8-bit ALU operation on A = a, operand v and carry c (R350-R373). CP keeps A. -/
def aluResult (op : AluOp) (a v : Byte) (c : Bool) : Byte × Flags :=
  match op with
  | .add => add8 a v false
  | .adc => add8 a v c
  | .sub => sub8 a v false
  | .sbc => sub8 a v c
  | .and => (a &&& v, logicFlags (a &&& v) true)
  | .xor => (a ^^^ v, logicFlags (a ^^^ v) false)
  | .or => (a ||| v, logicFlags (a ||| v) false)
  | .cp => (a, (sub8 a v false).2)

/-- The result and flags of INC on a byte; C keeps its value (R374). -/
def incResult (v : Byte) (f : Flags) : Byte × Flags :=
  (v + 1, { f with z := decide (v + 1 = 0), n := false, h := decide (v.toNat % 16 = 15) })

/-- The result and flags of DEC on a byte; C keeps its value (R376). -/
def decResult (v : Byte) (f : Flags) : Byte × Flags :=
  (v - 1, { f with z := decide (v - 1 = 0), n := true, h := decide (v.toNat % 16 = 0) })

/-- DAA after an addition: the adjusted A and the carry (R378). -/
def daaAdd (a : Byte) (f : Flags) : Byte × Bool :=
  let hi := f.c || decide (a.toNat > 0x99)
  let lo := f.h || decide (a.toNat % 16 > 9)
  (a + (if hi then 0x60 else 0) + (if lo then 0x06 else 0), hi)

/-- DAA after a subtraction (R378). -/
def daaSub (a : Byte) (f : Flags) : Byte × Bool :=
  (a - (if f.c then 0x60 else 0) - (if f.h then 0x06 else 0), f.c)

/-- The result and flags of DAA; N keeps its value (R378). -/
def daaResult (a : Byte) (f : Flags) : Byte × Flags :=
  let r := if f.n then daaSub a f else daaAdd a f
  (r.1, { f with z := decide (r.1 = 0), h := false, c := r.2 })

/-- The result and the bit shifted out of a rotate, shift or SWAP of v with carry c (R404-R419). -/
def rotResult (op : RotOp) (v : Byte) (c : Bool) : Byte × Bool :=
  match op with
  | .rlc => ((v <<< 1) ||| bitAt 0 (v.getLsbD 7), v.getLsbD 7)
  | .rrc => ((v >>> 1) ||| bitAt 7 (v.getLsbD 0), v.getLsbD 0)
  | .rl => ((v <<< 1) ||| bitAt 0 c, v.getLsbD 7)
  | .rr => ((v >>> 1) ||| bitAt 7 c, v.getLsbD 0)
  | .sla => (v <<< 1, v.getLsbD 7)
  | .sra => ((v >>> 1) ||| (v &&& 0x80), v.getLsbD 0)
  | .swap => (((v &&& 0x0F) <<< 4) ||| (v >>> 4), false)
  | .srl => (v >>> 1, v.getLsbD 0)

/-- The flags of a prefixed rotate: Z from the result (R396). -/
def rotFlags (r : Byte × Bool) : Flags := { z := decide (r.1 = 0), n := false, h := false, c := r.2 }

/-- The flags of an accumulator rotate: Z is always cleared (R400-R403). -/
def rotAFlags (r : Byte × Bool) : Flags := { z := false, n := false, h := false, c := r.2 }

/-- The flags of `BIT b` on v; C keeps its value (R420). -/
def bitFlags (v : Byte) (b : Nat) (f : Flags) : Flags := { f with z := !v.getLsbD b, n := false, h := true }

/-- `RES b` on v (R422). -/
def resResult (v : Byte) (b : Nat) : Byte := v &&& ~~~((1 : Byte) <<< b)

/-- `SET b` on v (R424). -/
def setResult (v : Byte) (b : Nat) : Byte := v ||| ((1 : Byte) <<< b)

/-- The result and flags of `ADD HL, rr`; Z keeps its value (R390). -/
def add16 (h v : Word) (f : Flags) : Word × Flags :=
  (BitVec.ofNat 16 (h.toNat + v.toNat),
   { f with
     n := false
     h := decide (h.toNat % 4096 + v.toNat % 4096 > 4095)
     c := decide (h.toNat + v.toNat > 65535) })

/-- SP plus a signed offset: H and C from the unsigned addition to the low byte (R333, R393). -/
def addOffset (sp : Word) (e : Byte) : Word × Flags :=
  (sp + sext16 e,
   { z := false
     n := false
     h := decide (sp.toNat % 16 + e.toNat % 16 > 15)
     c := decide (sp.toNat % 256 + e.toNat > 255) })

end Sys2Proof.Machine
end

