-- ==== Sys2Proof/Machine/Ops.lean ====
section
/-! DEFINITION. The named operations over registers and memory that every meaning is built from (00_scope.md R9), and
the interrupt entry and return (60_exceptions.md R603, 45_control.md R459). -/

namespace Sys2Proof.Machine

/-- `x[r]` (R9). -/
def readReg (s : State) (r : Reg8) : Byte :=
  match r with
  | .b => s.cpu.b
  | .c => s.cpu.c
  | .d => s.cpu.d
  | .e => s.cpu.e
  | .h => s.cpu.h
  | .l => s.cpu.l
  | .a => s.cpu.a

/-- `x[r] <- v` (R9). -/
def writeReg (s : State) (r : Reg8) (v : Byte) : State :=
  match r with
  | .b => { s with cpu := { s.cpu with b := v } }
  | .c => { s with cpu := { s.cpu with c := v } }
  | .d => { s with cpu := { s.cpu with d := v } }
  | .e => { s with cpu := { s.cpu with e := v } }
  | .h => { s with cpu := { s.cpu with h := v } }
  | .l => { s with cpu := { s.cpu with l := v } }
  | .a => { s with cpu := { s.cpu with a := v } }

/-- The four flags replaced. -/
def setFlags (s : State) (f : Flags) : State := { s with cpu := { s.cpu with flags := f } }

/-- `pc <- t` (R9). -/
def setPc (s : State) (t : Word) : State := { s with cpu := { s.cpu with pc := t } }

/-- `sp <- v` (R9). -/
def setSp (s : State) (v : Word) : State := { s with cpu := { s.cpu with sp := v } }

/-- `rr(p)` for BC, DE, HL, SP: the pairs alias their halves (R9, R31). -/
def readPair (s : State) (p : Pair) : Word :=
  match p with
  | .bc => joinBytes s.cpu.b s.cpu.c
  | .de => joinBytes s.cpu.d s.cpu.e
  | .hl => joinBytes s.cpu.h s.cpu.l
  | .sp => s.cpu.sp

/-- `rr(p) <- v` (R9, R31). -/
def writePair (s : State) (p : Pair) (v : Word) : State :=
  match p with
  | .bc => { s with cpu := { s.cpu with b := hiByte v, c := loByte v } }
  | .de => { s with cpu := { s.cpu with d := hiByte v, e := loByte v } }
  | .hl => { s with cpu := { s.cpu with h := hiByte v, l := loByte v } }
  | .sp => setSp s v

/-- The pair PUSH reads; AF is {A, F} (R31, R334, R336). -/
def readStackPair (s : State) (p : StackPair) : Word :=
  match p with
  | .bc => readPair s .bc
  | .de => readPair s .de
  | .hl => readPair s .hl
  | .af => joinBytes s.cpu.a (flagsByte s.cpu.flags)

/-- The pair POP writes; F discards bits 3:0 (R32, R337, R338). -/
def writeStackPair (s : State) (p : StackPair) (v : Word) : State :=
  match p with
  | .bc => writePair s .bc v
  | .de => writePair s .de v
  | .hl => writePair s .hl v
  | .af => { s with cpu := { s.cpu with a := hiByte v, flags := flagsOfByte (loByte v) } }

/-- The byte at HL. -/
def readAtHL (s : State) : Byte := memRead s (readPair s .hl)

/-- A byte stored at HL. -/
def writeAtHL (s : State) (v : Byte) : State := memWrite s (readPair s .hl) v

/-- The address 0xFF00 + n of the high page (R206). -/
def highPage (n : Byte) : Word := 0xFF00 + zext16 n

/-- `Fetch8()` (R9), with the HALT-bug case: the byte is read and pc does not move (R482). -/
def fetch8 (s : State) : Byte × State :=
  (memRead s s.cpu.pc,
   { s with
     cpu := { s.cpu with haltBug := false, pc := if s.cpu.haltBug then s.cpu.pc else s.cpu.pc + 1 } })

/-- `MemWrite16(a, v)`: the low byte first, at the lower address (R9, R104, R331). -/
def write16 (s : State) (a v : Word) : State := memWrite (memWrite s a (loByte v)) (a + 1) (hiByte v)

/-- `MemRead16(a)` (R9). -/
def read16 (s : State) (a : Word) : Word := joinBytes (memRead s (a + 1)) (memRead s a)

/-- One byte pushed: SP moves down, then the byte is written there (R9). -/
def pushByte (s : State) (v : Byte) : State := memWrite (setSp s (s.cpu.sp - 1)) (s.cpu.sp - 1) v

/-- `Push16(v)`: the high byte at SP-1, then the low byte at SP-2 (R9, R104). -/
def push16 (s : State) (v : Word) : State := pushByte (pushByte s (hiByte v)) (loByte v)

/-- The value `Pop16()` returns (R9). -/
def popped (s : State) : Word := read16 s s.cpu.sp

/-- The state after `Pop16()`: reading has no effect, SP moves up by two (R9, R106). -/
def popSp (s : State) : State := setSp s (s.cpu.sp + 2)

/-- `pc <- Pop16()` (R457). -/
def popPc (s : State) : State := setPc (popSp s) (popped s)

/-- Call: push the pc, then jump (R455, R462). -/
def callTo (s : State) (t : Word) : State := setPc (push16 s s.cpu.pc) t

/-- The lowest set bit of the pending set, 0 to 4: the interrupt of highest priority (R603, R604). -/
def lowestBit (p : BitVec 5) : Nat :=
  if p.getLsbD 0 then 0
  else if p.getLsbD 1 then 1
  else if p.getLsbD 2 then 2
  else if p.getLsbD 3 then 3
  else 4

/-- The vector of interrupt i (R601). -/
def vectorOf (i : Nat) : Word := 0x0040 + BitVec.ofNat 16 (8 * i)

/-- Interrupt i acknowledged: its IF bit cleared, IME, the pending EI and HALT dropped (R603). -/
def acknowledge (s : State) (i : Nat) : State :=
  { s with
    irq := { s.irq with flag := s.irq.flag &&& ~~~(1#5 <<< i) }
    cpu := { s.cpu with ime := false, eiPending := false, halted := false, haltBug := false } }

/-- The address a dispatch saves: pc, or the HALT's own address while the HALT bug is pending (R603, R482). -/
def returnAddress (s : State) : Word := if s.cpu.haltBug then s.cpu.pc - 1 else s.cpu.pc

/-- TAKING AN INTERRUPT, `Dispatch()` (R603): the one exception entry of the machine. It costs 20 T-cycles whatever its
push starts (R610, log 33). -/
def dispatchInterrupt (s : State) : State :=
  let i := lowestBit (pendingIrq s)
  { setPc (push16 (acknowledge s i) (returnAddress s)) (vectorOf i) with cost := s.cost + 20 }

/-- RETURN FROM AN INTERRUPT, `RETI`: pop the pc and enable at once (R459, R606). -/
def returnFromInterrupt (s : State) : State :=
  let s := popPc s
  { s with cpu := { s.cpu with ime := true, eiPending := false } }

/-- The state a fault leaves: `fault` recorded, nothing else changed (R600, R486). -/
def recordFault (s : State) (op : Byte) (cb : Bool) : State := { s with cpu := { s.cpu with fault := some (op, cb) } }

end Sys2Proof.Machine
end

