-- ==== Sys2Proof/Machine/Operands.lean ====
section
/-! DEFINITION. The operand forms of the instruction set (42_alu8.md R345, 30_encoding.md R202-R206, 40_loads8.md): where
an operand byte comes from, and the addresses a load or store uses. -/

namespace Sys2Proof.Machine

/-- The three sources of an 8-bit operand (R345). -/
inductive Source where
  | reg (r : Reg8)
  | atHL
  | imm (n : Byte)
  deriving DecidableEq, Repr

/-- The byte a source gives (R345). -/
def sourceByte (s : State) (o : Source) : Byte :=
  match o with
  | .reg r => readReg s r
  | .atHL => readAtHL s
  | .imm n => n

/-- The two places a read-modify-write instruction works on (R396, R374, R375). -/
inductive Place where
  | reg (r : Reg8)
  | atHL
  deriving DecidableEq, Repr

/-- The byte at a place. -/
def placeByte (s : State) (p : Place) : Byte :=
  match p with
  | .reg r => readReg s r
  | .atHL => readAtHL s

/-- A byte written to a place. -/
def placeWrite (s : State) (p : Place) (v : Byte) : State :=
  match p with
  | .reg r => writeReg s r v
  | .atHL => writeAtHL s v

/-- What a 3-bit register field names: a register, or the byte at HL for the value 6 (R202). -/
def placeOf (r : Option Reg8) : Place :=
  match r with
  | some r => .reg r
  | none => .atHL

/-- The addresses of the accumulator loads and stores (R305-R318). -/
inductive Address where
  | pair (p : Pair)
  | abs (a : Word)
  | high (n : Byte)
  | highC
  deriving DecidableEq, Repr

/-- The address in a state (R206). -/
def addressOf (s : State) (a : Address) : Word :=
  match a with
  | .pair p => readPair s p
  | .abs a => a
  | .high n => highPage n
  | .highC => highPage s.cpu.c

end Sys2Proof.Machine
end

