-- ==== Sys2Proof/Machine/BitOps.lean ====
section
/-! DEFINITION. BIT, RES and SET (44_rotate_shift_bit.md R420-R425). -/

namespace Sys2Proof.Machine

/-- `BIT b` on a register or the byte at HL (R420, R421). -/
def testBit (b : Nat) (p : Place) (cost : Nat) (s : State) : State :=
  spend (setFlags s (bitFlags (placeByte s p) b s.cpu.flags)) cost

/-- `RES b` on a register or the byte at HL (R422, R423). -/
def resetBit (b : Nat) (p : Place) (cost : Nat) (s : State) : State :=
  spend (placeWrite s p (resResult (placeByte s p) b)) cost

/-- `SET b` on a register or the byte at HL (R424, R425). -/
def setBit (b : Nat) (p : Place) (cost : Nat) (s : State) : State :=
  spend (placeWrite s p (setResult (placeByte s p) b)) cost

/-- `BIT 0, B` (R420). -/
def execBit0B (s : State) : Result := .next (testBit 0 (.reg .b) 8 s)

/-- `BIT 0, C` (R420). -/
def execBit0C (s : State) : Result := .next (testBit 0 (.reg .c) 8 s)

/-- `BIT 0, D` (R420). -/
def execBit0D (s : State) : Result := .next (testBit 0 (.reg .d) 8 s)

/-- `BIT 0, E` (R420). -/
def execBit0E (s : State) : Result := .next (testBit 0 (.reg .e) 8 s)

/-- `BIT 0, H` (R420). -/
def execBit0H (s : State) : Result := .next (testBit 0 (.reg .h) 8 s)

/-- `BIT 0, L` (R420). -/
def execBit0L (s : State) : Result := .next (testBit 0 (.reg .l) 8 s)

/-- `BIT 0, (HL)` (R421). -/
def execBit0AtHL (s : State) : Result := .next (testBit 0 .atHL 12 s)

/-- `BIT 0, A` (R420). -/
def execBit0A (s : State) : Result := .next (testBit 0 (.reg .a) 8 s)

/-- `BIT 1, B` (R420). -/
def execBit1B (s : State) : Result := .next (testBit 1 (.reg .b) 8 s)

/-- `BIT 1, C` (R420). -/
def execBit1C (s : State) : Result := .next (testBit 1 (.reg .c) 8 s)

/-- `BIT 1, D` (R420). -/
def execBit1D (s : State) : Result := .next (testBit 1 (.reg .d) 8 s)

/-- `BIT 1, E` (R420). -/
def execBit1E (s : State) : Result := .next (testBit 1 (.reg .e) 8 s)

/-- `BIT 1, H` (R420). -/
def execBit1H (s : State) : Result := .next (testBit 1 (.reg .h) 8 s)

/-- `BIT 1, L` (R420). -/
def execBit1L (s : State) : Result := .next (testBit 1 (.reg .l) 8 s)

/-- `BIT 1, (HL)` (R421). -/
def execBit1AtHL (s : State) : Result := .next (testBit 1 .atHL 12 s)

/-- `BIT 1, A` (R420). -/
def execBit1A (s : State) : Result := .next (testBit 1 (.reg .a) 8 s)

/-- `BIT 2, B` (R420). -/
def execBit2B (s : State) : Result := .next (testBit 2 (.reg .b) 8 s)

/-- `BIT 2, C` (R420). -/
def execBit2C (s : State) : Result := .next (testBit 2 (.reg .c) 8 s)

/-- `BIT 2, D` (R420). -/
def execBit2D (s : State) : Result := .next (testBit 2 (.reg .d) 8 s)

/-- `BIT 2, E` (R420). -/
def execBit2E (s : State) : Result := .next (testBit 2 (.reg .e) 8 s)

/-- `BIT 2, H` (R420). -/
def execBit2H (s : State) : Result := .next (testBit 2 (.reg .h) 8 s)

/-- `BIT 2, L` (R420). -/
def execBit2L (s : State) : Result := .next (testBit 2 (.reg .l) 8 s)

/-- `BIT 2, (HL)` (R421). -/
def execBit2AtHL (s : State) : Result := .next (testBit 2 .atHL 12 s)

/-- `BIT 2, A` (R420). -/
def execBit2A (s : State) : Result := .next (testBit 2 (.reg .a) 8 s)

/-- `BIT 3, B` (R420). -/
def execBit3B (s : State) : Result := .next (testBit 3 (.reg .b) 8 s)

/-- `BIT 3, C` (R420). -/
def execBit3C (s : State) : Result := .next (testBit 3 (.reg .c) 8 s)

/-- `BIT 3, D` (R420). -/
def execBit3D (s : State) : Result := .next (testBit 3 (.reg .d) 8 s)

/-- `BIT 3, E` (R420). -/
def execBit3E (s : State) : Result := .next (testBit 3 (.reg .e) 8 s)

/-- `BIT 3, H` (R420). -/
def execBit3H (s : State) : Result := .next (testBit 3 (.reg .h) 8 s)

/-- `BIT 3, L` (R420). -/
def execBit3L (s : State) : Result := .next (testBit 3 (.reg .l) 8 s)

/-- `BIT 3, (HL)` (R421). -/
def execBit3AtHL (s : State) : Result := .next (testBit 3 .atHL 12 s)

/-- `BIT 3, A` (R420). -/
def execBit3A (s : State) : Result := .next (testBit 3 (.reg .a) 8 s)

/-- `BIT 4, B` (R420). -/
def execBit4B (s : State) : Result := .next (testBit 4 (.reg .b) 8 s)

/-- `BIT 4, C` (R420). -/
def execBit4C (s : State) : Result := .next (testBit 4 (.reg .c) 8 s)

/-- `BIT 4, D` (R420). -/
def execBit4D (s : State) : Result := .next (testBit 4 (.reg .d) 8 s)

/-- `BIT 4, E` (R420). -/
def execBit4E (s : State) : Result := .next (testBit 4 (.reg .e) 8 s)

/-- `BIT 4, H` (R420). -/
def execBit4H (s : State) : Result := .next (testBit 4 (.reg .h) 8 s)

/-- `BIT 4, L` (R420). -/
def execBit4L (s : State) : Result := .next (testBit 4 (.reg .l) 8 s)

/-- `BIT 4, (HL)` (R421). -/
def execBit4AtHL (s : State) : Result := .next (testBit 4 .atHL 12 s)

/-- `BIT 4, A` (R420). -/
def execBit4A (s : State) : Result := .next (testBit 4 (.reg .a) 8 s)

/-- `BIT 5, B` (R420). -/
def execBit5B (s : State) : Result := .next (testBit 5 (.reg .b) 8 s)

/-- `BIT 5, C` (R420). -/
def execBit5C (s : State) : Result := .next (testBit 5 (.reg .c) 8 s)

/-- `BIT 5, D` (R420). -/
def execBit5D (s : State) : Result := .next (testBit 5 (.reg .d) 8 s)

/-- `BIT 5, E` (R420). -/
def execBit5E (s : State) : Result := .next (testBit 5 (.reg .e) 8 s)

/-- `BIT 5, H` (R420). -/
def execBit5H (s : State) : Result := .next (testBit 5 (.reg .h) 8 s)

/-- `BIT 5, L` (R420). -/
def execBit5L (s : State) : Result := .next (testBit 5 (.reg .l) 8 s)

/-- `BIT 5, (HL)` (R421). -/
def execBit5AtHL (s : State) : Result := .next (testBit 5 .atHL 12 s)

/-- `BIT 5, A` (R420). -/
def execBit5A (s : State) : Result := .next (testBit 5 (.reg .a) 8 s)

/-- `BIT 6, B` (R420). -/
def execBit6B (s : State) : Result := .next (testBit 6 (.reg .b) 8 s)

/-- `BIT 6, C` (R420). -/
def execBit6C (s : State) : Result := .next (testBit 6 (.reg .c) 8 s)

/-- `BIT 6, D` (R420). -/
def execBit6D (s : State) : Result := .next (testBit 6 (.reg .d) 8 s)

/-- `BIT 6, E` (R420). -/
def execBit6E (s : State) : Result := .next (testBit 6 (.reg .e) 8 s)

/-- `BIT 6, H` (R420). -/
def execBit6H (s : State) : Result := .next (testBit 6 (.reg .h) 8 s)

/-- `BIT 6, L` (R420). -/
def execBit6L (s : State) : Result := .next (testBit 6 (.reg .l) 8 s)

/-- `BIT 6, (HL)` (R421). -/
def execBit6AtHL (s : State) : Result := .next (testBit 6 .atHL 12 s)

/-- `BIT 6, A` (R420). -/
def execBit6A (s : State) : Result := .next (testBit 6 (.reg .a) 8 s)

/-- `BIT 7, B` (R420). -/
def execBit7B (s : State) : Result := .next (testBit 7 (.reg .b) 8 s)

/-- `BIT 7, C` (R420). -/
def execBit7C (s : State) : Result := .next (testBit 7 (.reg .c) 8 s)

/-- `BIT 7, D` (R420). -/
def execBit7D (s : State) : Result := .next (testBit 7 (.reg .d) 8 s)

/-- `BIT 7, E` (R420). -/
def execBit7E (s : State) : Result := .next (testBit 7 (.reg .e) 8 s)

/-- `BIT 7, H` (R420). -/
def execBit7H (s : State) : Result := .next (testBit 7 (.reg .h) 8 s)

/-- `BIT 7, L` (R420). -/
def execBit7L (s : State) : Result := .next (testBit 7 (.reg .l) 8 s)

/-- `BIT 7, (HL)` (R421). -/
def execBit7AtHL (s : State) : Result := .next (testBit 7 .atHL 12 s)

/-- `BIT 7, A` (R420). -/
def execBit7A (s : State) : Result := .next (testBit 7 (.reg .a) 8 s)

/-- `RES 0, B` (R422). -/
def execRes0B (s : State) : Result := .next (resetBit 0 (.reg .b) 8 s)

/-- `RES 0, C` (R422). -/
def execRes0C (s : State) : Result := .next (resetBit 0 (.reg .c) 8 s)

/-- `RES 0, D` (R422). -/
def execRes0D (s : State) : Result := .next (resetBit 0 (.reg .d) 8 s)

/-- `RES 0, E` (R422). -/
def execRes0E (s : State) : Result := .next (resetBit 0 (.reg .e) 8 s)

/-- `RES 0, H` (R422). -/
def execRes0H (s : State) : Result := .next (resetBit 0 (.reg .h) 8 s)

/-- `RES 0, L` (R422). -/
def execRes0L (s : State) : Result := .next (resetBit 0 (.reg .l) 8 s)

/-- `RES 0, (HL)` (R423). -/
def execRes0AtHL (s : State) : Result := .next (resetBit 0 .atHL 16 s)

/-- `RES 0, A` (R422). -/
def execRes0A (s : State) : Result := .next (resetBit 0 (.reg .a) 8 s)

/-- `RES 1, B` (R422). -/
def execRes1B (s : State) : Result := .next (resetBit 1 (.reg .b) 8 s)

/-- `RES 1, C` (R422). -/
def execRes1C (s : State) : Result := .next (resetBit 1 (.reg .c) 8 s)

/-- `RES 1, D` (R422). -/
def execRes1D (s : State) : Result := .next (resetBit 1 (.reg .d) 8 s)

/-- `RES 1, E` (R422). -/
def execRes1E (s : State) : Result := .next (resetBit 1 (.reg .e) 8 s)

/-- `RES 1, H` (R422). -/
def execRes1H (s : State) : Result := .next (resetBit 1 (.reg .h) 8 s)

/-- `RES 1, L` (R422). -/
def execRes1L (s : State) : Result := .next (resetBit 1 (.reg .l) 8 s)

/-- `RES 1, (HL)` (R423). -/
def execRes1AtHL (s : State) : Result := .next (resetBit 1 .atHL 16 s)

/-- `RES 1, A` (R422). -/
def execRes1A (s : State) : Result := .next (resetBit 1 (.reg .a) 8 s)

/-- `RES 2, B` (R422). -/
def execRes2B (s : State) : Result := .next (resetBit 2 (.reg .b) 8 s)

/-- `RES 2, C` (R422). -/
def execRes2C (s : State) : Result := .next (resetBit 2 (.reg .c) 8 s)

/-- `RES 2, D` (R422). -/
def execRes2D (s : State) : Result := .next (resetBit 2 (.reg .d) 8 s)

/-- `RES 2, E` (R422). -/
def execRes2E (s : State) : Result := .next (resetBit 2 (.reg .e) 8 s)

/-- `RES 2, H` (R422). -/
def execRes2H (s : State) : Result := .next (resetBit 2 (.reg .h) 8 s)

/-- `RES 2, L` (R422). -/
def execRes2L (s : State) : Result := .next (resetBit 2 (.reg .l) 8 s)

/-- `RES 2, (HL)` (R423). -/
def execRes2AtHL (s : State) : Result := .next (resetBit 2 .atHL 16 s)

/-- `RES 2, A` (R422). -/
def execRes2A (s : State) : Result := .next (resetBit 2 (.reg .a) 8 s)

/-- `RES 3, B` (R422). -/
def execRes3B (s : State) : Result := .next (resetBit 3 (.reg .b) 8 s)

/-- `RES 3, C` (R422). -/
def execRes3C (s : State) : Result := .next (resetBit 3 (.reg .c) 8 s)

/-- `RES 3, D` (R422). -/
def execRes3D (s : State) : Result := .next (resetBit 3 (.reg .d) 8 s)

/-- `RES 3, E` (R422). -/
def execRes3E (s : State) : Result := .next (resetBit 3 (.reg .e) 8 s)

/-- `RES 3, H` (R422). -/
def execRes3H (s : State) : Result := .next (resetBit 3 (.reg .h) 8 s)

/-- `RES 3, L` (R422). -/
def execRes3L (s : State) : Result := .next (resetBit 3 (.reg .l) 8 s)

/-- `RES 3, (HL)` (R423). -/
def execRes3AtHL (s : State) : Result := .next (resetBit 3 .atHL 16 s)

/-- `RES 3, A` (R422). -/
def execRes3A (s : State) : Result := .next (resetBit 3 (.reg .a) 8 s)

/-- `RES 4, B` (R422). -/
def execRes4B (s : State) : Result := .next (resetBit 4 (.reg .b) 8 s)

/-- `RES 4, C` (R422). -/
def execRes4C (s : State) : Result := .next (resetBit 4 (.reg .c) 8 s)

/-- `RES 4, D` (R422). -/
def execRes4D (s : State) : Result := .next (resetBit 4 (.reg .d) 8 s)

/-- `RES 4, E` (R422). -/
def execRes4E (s : State) : Result := .next (resetBit 4 (.reg .e) 8 s)

/-- `RES 4, H` (R422). -/
def execRes4H (s : State) : Result := .next (resetBit 4 (.reg .h) 8 s)

/-- `RES 4, L` (R422). -/
def execRes4L (s : State) : Result := .next (resetBit 4 (.reg .l) 8 s)

/-- `RES 4, (HL)` (R423). -/
def execRes4AtHL (s : State) : Result := .next (resetBit 4 .atHL 16 s)

/-- `RES 4, A` (R422). -/
def execRes4A (s : State) : Result := .next (resetBit 4 (.reg .a) 8 s)

/-- `RES 5, B` (R422). -/
def execRes5B (s : State) : Result := .next (resetBit 5 (.reg .b) 8 s)

/-- `RES 5, C` (R422). -/
def execRes5C (s : State) : Result := .next (resetBit 5 (.reg .c) 8 s)

/-- `RES 5, D` (R422). -/
def execRes5D (s : State) : Result := .next (resetBit 5 (.reg .d) 8 s)

/-- `RES 5, E` (R422). -/
def execRes5E (s : State) : Result := .next (resetBit 5 (.reg .e) 8 s)

/-- `RES 5, H` (R422). -/
def execRes5H (s : State) : Result := .next (resetBit 5 (.reg .h) 8 s)

/-- `RES 5, L` (R422). -/
def execRes5L (s : State) : Result := .next (resetBit 5 (.reg .l) 8 s)

/-- `RES 5, (HL)` (R423). -/
def execRes5AtHL (s : State) : Result := .next (resetBit 5 .atHL 16 s)

/-- `RES 5, A` (R422). -/
def execRes5A (s : State) : Result := .next (resetBit 5 (.reg .a) 8 s)

/-- `RES 6, B` (R422). -/
def execRes6B (s : State) : Result := .next (resetBit 6 (.reg .b) 8 s)

/-- `RES 6, C` (R422). -/
def execRes6C (s : State) : Result := .next (resetBit 6 (.reg .c) 8 s)

/-- `RES 6, D` (R422). -/
def execRes6D (s : State) : Result := .next (resetBit 6 (.reg .d) 8 s)

/-- `RES 6, E` (R422). -/
def execRes6E (s : State) : Result := .next (resetBit 6 (.reg .e) 8 s)

/-- `RES 6, H` (R422). -/
def execRes6H (s : State) : Result := .next (resetBit 6 (.reg .h) 8 s)

/-- `RES 6, L` (R422). -/
def execRes6L (s : State) : Result := .next (resetBit 6 (.reg .l) 8 s)

/-- `RES 6, (HL)` (R423). -/
def execRes6AtHL (s : State) : Result := .next (resetBit 6 .atHL 16 s)

/-- `RES 6, A` (R422). -/
def execRes6A (s : State) : Result := .next (resetBit 6 (.reg .a) 8 s)

/-- `RES 7, B` (R422). -/
def execRes7B (s : State) : Result := .next (resetBit 7 (.reg .b) 8 s)

/-- `RES 7, C` (R422). -/
def execRes7C (s : State) : Result := .next (resetBit 7 (.reg .c) 8 s)

/-- `RES 7, D` (R422). -/
def execRes7D (s : State) : Result := .next (resetBit 7 (.reg .d) 8 s)

/-- `RES 7, E` (R422). -/
def execRes7E (s : State) : Result := .next (resetBit 7 (.reg .e) 8 s)

/-- `RES 7, H` (R422). -/
def execRes7H (s : State) : Result := .next (resetBit 7 (.reg .h) 8 s)

/-- `RES 7, L` (R422). -/
def execRes7L (s : State) : Result := .next (resetBit 7 (.reg .l) 8 s)

/-- `RES 7, (HL)` (R423). -/
def execRes7AtHL (s : State) : Result := .next (resetBit 7 .atHL 16 s)

/-- `RES 7, A` (R422). -/
def execRes7A (s : State) : Result := .next (resetBit 7 (.reg .a) 8 s)

/-- `SET 0, B` (R424). -/
def execSet0B (s : State) : Result := .next (setBit 0 (.reg .b) 8 s)

/-- `SET 0, C` (R424). -/
def execSet0C (s : State) : Result := .next (setBit 0 (.reg .c) 8 s)

/-- `SET 0, D` (R424). -/
def execSet0D (s : State) : Result := .next (setBit 0 (.reg .d) 8 s)

/-- `SET 0, E` (R424). -/
def execSet0E (s : State) : Result := .next (setBit 0 (.reg .e) 8 s)

/-- `SET 0, H` (R424). -/
def execSet0H (s : State) : Result := .next (setBit 0 (.reg .h) 8 s)

/-- `SET 0, L` (R424). -/
def execSet0L (s : State) : Result := .next (setBit 0 (.reg .l) 8 s)

/-- `SET 0, (HL)` (R425). -/
def execSet0AtHL (s : State) : Result := .next (setBit 0 .atHL 16 s)

/-- `SET 0, A` (R424). -/
def execSet0A (s : State) : Result := .next (setBit 0 (.reg .a) 8 s)

/-- `SET 1, B` (R424). -/
def execSet1B (s : State) : Result := .next (setBit 1 (.reg .b) 8 s)

/-- `SET 1, C` (R424). -/
def execSet1C (s : State) : Result := .next (setBit 1 (.reg .c) 8 s)

/-- `SET 1, D` (R424). -/
def execSet1D (s : State) : Result := .next (setBit 1 (.reg .d) 8 s)

/-- `SET 1, E` (R424). -/
def execSet1E (s : State) : Result := .next (setBit 1 (.reg .e) 8 s)

/-- `SET 1, H` (R424). -/
def execSet1H (s : State) : Result := .next (setBit 1 (.reg .h) 8 s)

/-- `SET 1, L` (R424). -/
def execSet1L (s : State) : Result := .next (setBit 1 (.reg .l) 8 s)

/-- `SET 1, (HL)` (R425). -/
def execSet1AtHL (s : State) : Result := .next (setBit 1 .atHL 16 s)

/-- `SET 1, A` (R424). -/
def execSet1A (s : State) : Result := .next (setBit 1 (.reg .a) 8 s)

/-- `SET 2, B` (R424). -/
def execSet2B (s : State) : Result := .next (setBit 2 (.reg .b) 8 s)

/-- `SET 2, C` (R424). -/
def execSet2C (s : State) : Result := .next (setBit 2 (.reg .c) 8 s)

/-- `SET 2, D` (R424). -/
def execSet2D (s : State) : Result := .next (setBit 2 (.reg .d) 8 s)

/-- `SET 2, E` (R424). -/
def execSet2E (s : State) : Result := .next (setBit 2 (.reg .e) 8 s)

/-- `SET 2, H` (R424). -/
def execSet2H (s : State) : Result := .next (setBit 2 (.reg .h) 8 s)

/-- `SET 2, L` (R424). -/
def execSet2L (s : State) : Result := .next (setBit 2 (.reg .l) 8 s)

/-- `SET 2, (HL)` (R425). -/
def execSet2AtHL (s : State) : Result := .next (setBit 2 .atHL 16 s)

/-- `SET 2, A` (R424). -/
def execSet2A (s : State) : Result := .next (setBit 2 (.reg .a) 8 s)

/-- `SET 3, B` (R424). -/
def execSet3B (s : State) : Result := .next (setBit 3 (.reg .b) 8 s)

/-- `SET 3, C` (R424). -/
def execSet3C (s : State) : Result := .next (setBit 3 (.reg .c) 8 s)

/-- `SET 3, D` (R424). -/
def execSet3D (s : State) : Result := .next (setBit 3 (.reg .d) 8 s)

/-- `SET 3, E` (R424). -/
def execSet3E (s : State) : Result := .next (setBit 3 (.reg .e) 8 s)

/-- `SET 3, H` (R424). -/
def execSet3H (s : State) : Result := .next (setBit 3 (.reg .h) 8 s)

/-- `SET 3, L` (R424). -/
def execSet3L (s : State) : Result := .next (setBit 3 (.reg .l) 8 s)

/-- `SET 3, (HL)` (R425). -/
def execSet3AtHL (s : State) : Result := .next (setBit 3 .atHL 16 s)

/-- `SET 3, A` (R424). -/
def execSet3A (s : State) : Result := .next (setBit 3 (.reg .a) 8 s)

/-- `SET 4, B` (R424). -/
def execSet4B (s : State) : Result := .next (setBit 4 (.reg .b) 8 s)

/-- `SET 4, C` (R424). -/
def execSet4C (s : State) : Result := .next (setBit 4 (.reg .c) 8 s)

/-- `SET 4, D` (R424). -/
def execSet4D (s : State) : Result := .next (setBit 4 (.reg .d) 8 s)

/-- `SET 4, E` (R424). -/
def execSet4E (s : State) : Result := .next (setBit 4 (.reg .e) 8 s)

/-- `SET 4, H` (R424). -/
def execSet4H (s : State) : Result := .next (setBit 4 (.reg .h) 8 s)

/-- `SET 4, L` (R424). -/
def execSet4L (s : State) : Result := .next (setBit 4 (.reg .l) 8 s)

/-- `SET 4, (HL)` (R425). -/
def execSet4AtHL (s : State) : Result := .next (setBit 4 .atHL 16 s)

/-- `SET 4, A` (R424). -/
def execSet4A (s : State) : Result := .next (setBit 4 (.reg .a) 8 s)

/-- `SET 5, B` (R424). -/
def execSet5B (s : State) : Result := .next (setBit 5 (.reg .b) 8 s)

/-- `SET 5, C` (R424). -/
def execSet5C (s : State) : Result := .next (setBit 5 (.reg .c) 8 s)

/-- `SET 5, D` (R424). -/
def execSet5D (s : State) : Result := .next (setBit 5 (.reg .d) 8 s)

/-- `SET 5, E` (R424). -/
def execSet5E (s : State) : Result := .next (setBit 5 (.reg .e) 8 s)

/-- `SET 5, H` (R424). -/
def execSet5H (s : State) : Result := .next (setBit 5 (.reg .h) 8 s)

/-- `SET 5, L` (R424). -/
def execSet5L (s : State) : Result := .next (setBit 5 (.reg .l) 8 s)

/-- `SET 5, (HL)` (R425). -/
def execSet5AtHL (s : State) : Result := .next (setBit 5 .atHL 16 s)

/-- `SET 5, A` (R424). -/
def execSet5A (s : State) : Result := .next (setBit 5 (.reg .a) 8 s)

/-- `SET 6, B` (R424). -/
def execSet6B (s : State) : Result := .next (setBit 6 (.reg .b) 8 s)

/-- `SET 6, C` (R424). -/
def execSet6C (s : State) : Result := .next (setBit 6 (.reg .c) 8 s)

/-- `SET 6, D` (R424). -/
def execSet6D (s : State) : Result := .next (setBit 6 (.reg .d) 8 s)

/-- `SET 6, E` (R424). -/
def execSet6E (s : State) : Result := .next (setBit 6 (.reg .e) 8 s)

/-- `SET 6, H` (R424). -/
def execSet6H (s : State) : Result := .next (setBit 6 (.reg .h) 8 s)

/-- `SET 6, L` (R424). -/
def execSet6L (s : State) : Result := .next (setBit 6 (.reg .l) 8 s)

/-- `SET 6, (HL)` (R425). -/
def execSet6AtHL (s : State) : Result := .next (setBit 6 .atHL 16 s)

/-- `SET 6, A` (R424). -/
def execSet6A (s : State) : Result := .next (setBit 6 (.reg .a) 8 s)

/-- `SET 7, B` (R424). -/
def execSet7B (s : State) : Result := .next (setBit 7 (.reg .b) 8 s)

/-- `SET 7, C` (R424). -/
def execSet7C (s : State) : Result := .next (setBit 7 (.reg .c) 8 s)

/-- `SET 7, D` (R424). -/
def execSet7D (s : State) : Result := .next (setBit 7 (.reg .d) 8 s)

/-- `SET 7, E` (R424). -/
def execSet7E (s : State) : Result := .next (setBit 7 (.reg .e) 8 s)

/-- `SET 7, H` (R424). -/
def execSet7H (s : State) : Result := .next (setBit 7 (.reg .h) 8 s)

/-- `SET 7, L` (R424). -/
def execSet7L (s : State) : Result := .next (setBit 7 (.reg .l) 8 s)

/-- `SET 7, (HL)` (R425). -/
def execSet7AtHL (s : State) : Result := .next (setBit 7 .atHL 16 s)

/-- `SET 7, A` (R424). -/
def execSet7A (s : State) : Result := .next (setBit 7 (.reg .a) 8 s)

end Sys2Proof.Machine
end

