-- ==== Sys2Proof/Machine/Rotates.lean ====
section
/-! DEFINITION. Rotates, shifts and SWAP (44_rotate_shift_bit.md R400-R419). -/

namespace Sys2Proof.Machine

/-- An accumulator rotate; Z is always cleared (R400-R403). -/
def rotateA (op : RotOp) (cost : Nat) (s : State) : State :=
  let r := rotResult op s.cpu.a s.cpu.flags.c
  spend (setFlags (writeReg s .a r.1) (rotAFlags r)) cost

/-- A prefixed rotate or shift on a register or the byte at HL (R404-R419). -/
def rotatePlace (op : RotOp) (p : Place) (cost : Nat) (s : State) : State :=
  let r := rotResult op (placeByte s p) s.cpu.flags.c
  spend (setFlags (placeWrite s p r.1) (rotFlags r)) cost

/-- `RLCA` (R400). -/
def execRlca (s : State) : Result := .next (rotateA .rlc 4 s)

/-- `RRCA` (R401). -/
def execRrca (s : State) : Result := .next (rotateA .rrc 4 s)

/-- `RLA` (R402). -/
def execRla (s : State) : Result := .next (rotateA .rl 4 s)

/-- `RRA` (R403). -/
def execRra (s : State) : Result := .next (rotateA .rr 4 s)

/-- `RLC B` (R404). -/
def execRlcB (s : State) : Result := .next (rotatePlace .rlc (.reg .b) 8 s)

/-- `RLC C` (R404). -/
def execRlcC (s : State) : Result := .next (rotatePlace .rlc (.reg .c) 8 s)

/-- `RLC D` (R404). -/
def execRlcD (s : State) : Result := .next (rotatePlace .rlc (.reg .d) 8 s)

/-- `RLC E` (R404). -/
def execRlcE (s : State) : Result := .next (rotatePlace .rlc (.reg .e) 8 s)

/-- `RLC H` (R404). -/
def execRlcH (s : State) : Result := .next (rotatePlace .rlc (.reg .h) 8 s)

/-- `RLC L` (R404). -/
def execRlcL (s : State) : Result := .next (rotatePlace .rlc (.reg .l) 8 s)

/-- `RLC (HL)` (R405). -/
def execRlcAtHL (s : State) : Result := .next (rotatePlace .rlc .atHL 16 s)

/-- `RLC A` (R404). -/
def execRlcA (s : State) : Result := .next (rotatePlace .rlc (.reg .a) 8 s)

/-- `RRC B` (R406). -/
def execRrcB (s : State) : Result := .next (rotatePlace .rrc (.reg .b) 8 s)

/-- `RRC C` (R406). -/
def execRrcC (s : State) : Result := .next (rotatePlace .rrc (.reg .c) 8 s)

/-- `RRC D` (R406). -/
def execRrcD (s : State) : Result := .next (rotatePlace .rrc (.reg .d) 8 s)

/-- `RRC E` (R406). -/
def execRrcE (s : State) : Result := .next (rotatePlace .rrc (.reg .e) 8 s)

/-- `RRC H` (R406). -/
def execRrcH (s : State) : Result := .next (rotatePlace .rrc (.reg .h) 8 s)

/-- `RRC L` (R406). -/
def execRrcL (s : State) : Result := .next (rotatePlace .rrc (.reg .l) 8 s)

/-- `RRC (HL)` (R407). -/
def execRrcAtHL (s : State) : Result := .next (rotatePlace .rrc .atHL 16 s)

/-- `RRC A` (R406). -/
def execRrcA (s : State) : Result := .next (rotatePlace .rrc (.reg .a) 8 s)

/-- `RL B` (R408). -/
def execRlB (s : State) : Result := .next (rotatePlace .rl (.reg .b) 8 s)

/-- `RL C` (R408). -/
def execRlC (s : State) : Result := .next (rotatePlace .rl (.reg .c) 8 s)

/-- `RL D` (R408). -/
def execRlD (s : State) : Result := .next (rotatePlace .rl (.reg .d) 8 s)

/-- `RL E` (R408). -/
def execRlE (s : State) : Result := .next (rotatePlace .rl (.reg .e) 8 s)

/-- `RL H` (R408). -/
def execRlH (s : State) : Result := .next (rotatePlace .rl (.reg .h) 8 s)

/-- `RL L` (R408). -/
def execRlL (s : State) : Result := .next (rotatePlace .rl (.reg .l) 8 s)

/-- `RL (HL)` (R409). -/
def execRlAtHL (s : State) : Result := .next (rotatePlace .rl .atHL 16 s)

/-- `RL A` (R408). -/
def execRlA (s : State) : Result := .next (rotatePlace .rl (.reg .a) 8 s)

/-- `RR B` (R410). -/
def execRrB (s : State) : Result := .next (rotatePlace .rr (.reg .b) 8 s)

/-- `RR C` (R410). -/
def execRrC (s : State) : Result := .next (rotatePlace .rr (.reg .c) 8 s)

/-- `RR D` (R410). -/
def execRrD (s : State) : Result := .next (rotatePlace .rr (.reg .d) 8 s)

/-- `RR E` (R410). -/
def execRrE (s : State) : Result := .next (rotatePlace .rr (.reg .e) 8 s)

/-- `RR H` (R410). -/
def execRrH (s : State) : Result := .next (rotatePlace .rr (.reg .h) 8 s)

/-- `RR L` (R410). -/
def execRrL (s : State) : Result := .next (rotatePlace .rr (.reg .l) 8 s)

/-- `RR (HL)` (R411). -/
def execRrAtHL (s : State) : Result := .next (rotatePlace .rr .atHL 16 s)

/-- `RR A` (R410). -/
def execRrA (s : State) : Result := .next (rotatePlace .rr (.reg .a) 8 s)

/-- `SLA B` (R412). -/
def execSlaB (s : State) : Result := .next (rotatePlace .sla (.reg .b) 8 s)

/-- `SLA C` (R412). -/
def execSlaC (s : State) : Result := .next (rotatePlace .sla (.reg .c) 8 s)

/-- `SLA D` (R412). -/
def execSlaD (s : State) : Result := .next (rotatePlace .sla (.reg .d) 8 s)

/-- `SLA E` (R412). -/
def execSlaE (s : State) : Result := .next (rotatePlace .sla (.reg .e) 8 s)

/-- `SLA H` (R412). -/
def execSlaH (s : State) : Result := .next (rotatePlace .sla (.reg .h) 8 s)

/-- `SLA L` (R412). -/
def execSlaL (s : State) : Result := .next (rotatePlace .sla (.reg .l) 8 s)

/-- `SLA (HL)` (R413). -/
def execSlaAtHL (s : State) : Result := .next (rotatePlace .sla .atHL 16 s)

/-- `SLA A` (R412). -/
def execSlaA (s : State) : Result := .next (rotatePlace .sla (.reg .a) 8 s)

/-- `SRA B` (R414). -/
def execSraB (s : State) : Result := .next (rotatePlace .sra (.reg .b) 8 s)

/-- `SRA C` (R414). -/
def execSraC (s : State) : Result := .next (rotatePlace .sra (.reg .c) 8 s)

/-- `SRA D` (R414). -/
def execSraD (s : State) : Result := .next (rotatePlace .sra (.reg .d) 8 s)

/-- `SRA E` (R414). -/
def execSraE (s : State) : Result := .next (rotatePlace .sra (.reg .e) 8 s)

/-- `SRA H` (R414). -/
def execSraH (s : State) : Result := .next (rotatePlace .sra (.reg .h) 8 s)

/-- `SRA L` (R414). -/
def execSraL (s : State) : Result := .next (rotatePlace .sra (.reg .l) 8 s)

/-- `SRA (HL)` (R415). -/
def execSraAtHL (s : State) : Result := .next (rotatePlace .sra .atHL 16 s)

/-- `SRA A` (R414). -/
def execSraA (s : State) : Result := .next (rotatePlace .sra (.reg .a) 8 s)

/-- `SWAP B` (R416). -/
def execSwapB (s : State) : Result := .next (rotatePlace .swap (.reg .b) 8 s)

/-- `SWAP C` (R416). -/
def execSwapC (s : State) : Result := .next (rotatePlace .swap (.reg .c) 8 s)

/-- `SWAP D` (R416). -/
def execSwapD (s : State) : Result := .next (rotatePlace .swap (.reg .d) 8 s)

/-- `SWAP E` (R416). -/
def execSwapE (s : State) : Result := .next (rotatePlace .swap (.reg .e) 8 s)

/-- `SWAP H` (R416). -/
def execSwapH (s : State) : Result := .next (rotatePlace .swap (.reg .h) 8 s)

/-- `SWAP L` (R416). -/
def execSwapL (s : State) : Result := .next (rotatePlace .swap (.reg .l) 8 s)

/-- `SWAP (HL)` (R417). -/
def execSwapAtHL (s : State) : Result := .next (rotatePlace .swap .atHL 16 s)

/-- `SWAP A` (R416). -/
def execSwapA (s : State) : Result := .next (rotatePlace .swap (.reg .a) 8 s)

/-- `SRL B` (R418). -/
def execSrlB (s : State) : Result := .next (rotatePlace .srl (.reg .b) 8 s)

/-- `SRL C` (R418). -/
def execSrlC (s : State) : Result := .next (rotatePlace .srl (.reg .c) 8 s)

/-- `SRL D` (R418). -/
def execSrlD (s : State) : Result := .next (rotatePlace .srl (.reg .d) 8 s)

/-- `SRL E` (R418). -/
def execSrlE (s : State) : Result := .next (rotatePlace .srl (.reg .e) 8 s)

/-- `SRL H` (R418). -/
def execSrlH (s : State) : Result := .next (rotatePlace .srl (.reg .h) 8 s)

/-- `SRL L` (R418). -/
def execSrlL (s : State) : Result := .next (rotatePlace .srl (.reg .l) 8 s)

/-- `SRL (HL)` (R419). -/
def execSrlAtHL (s : State) : Result := .next (rotatePlace .srl .atHL 16 s)

/-- `SRL A` (R418). -/
def execSrlA (s : State) : Result := .next (rotatePlace .srl (.reg .a) 8 s)

end Sys2Proof.Machine
end

