-- ==== Sys2Proof/Machine/CpuControl.lean ====
section
/-! DEFINITION. NOP, HALT, STOP, DI, EI, the illegal opcodes and the CB prefix (46_cpu_control.md R480-R487). -/

namespace Sys2Proof.Machine

/-- NOP (R480). -/
def doNothing (s : State) : State := spend s 4

/-- HALT, and the HALT bug when an interrupt is pending with IME = 0 (R481, R482). -/
def haltCpu (s : State) : State :=
  spend
    (if s.cpu.ime = false ∧ pendingIrq s ≠ 0 then { s with cpu := { s.cpu with haltBug := true } }
    else { s with cpu := { s.cpu with halted := true } }) 4

/-- STOP: the armed CGB speed switch, else the stopped state; the divider is zeroed, and its change is looked at for a
timer edge as R621 says of every change (R483, log 15). The second byte is ignored. -/
def stopCpu (_n : Byte) (s : State) : State :=
  let s := setDivider s 0
  spend
    (if cgbMode s && s.sel.speedArmed then
      { s with cpu := { s.cpu with doubleSpeed := !s.cpu.doubleSpeed }, sel := { s.sel with speedArmed := false } }
    else { s with cpu := { s.cpu with stopped := true } }) 4

/-- DI: at once (R484). -/
def disableInterrupts (s : State) : State := spend { s with cpu := { s.cpu with ime := false, eiPending := false } } 4

/-- EI: IME follows after the next instruction (R485, R612). -/
def enableInterrupts (s : State) : State := spend { s with cpu := { s.cpu with eiPending := true } } 4

/-- An illegal opcode raises `UnknownInstruction(op, false)` (R486, R600); the state it leaves is `recordFault`'s
(log 12). -/
def illegalOpcode (op : Byte) (_s : State) : Result := .fault (.unknownInstruction op false)

/-- The CB-map instruction the byte `op2` names, by its fields (R396, R209). -/
def runCb (op2 : Byte) (s : State) : State :=
  let y := field op2 5 3
  let p := placeOf (regOf (field op2 2 0))
  let hl := decide (p = .atHL)
  match field op2 7 6 with
  | 0 => rotatePlace (rotOf y) p (if hl then 16 else 8) s
  | 1 => testBit y p (if hl then 12 else 8) s
  | 2 => resetBit y p (if hl then 16 else 8) s
  | _ => setBit y p (if hl then 16 else 8) s

/-- The prefix 0xCB: fetch the second byte and run what it names, in the same step (R487, log 13). -/
def runPrefixed (s : State) : State := runCb (fetch8 s).1 (fetch8 s).2

/-- `NOP` (R480). -/
def execNop (s : State) : Result := .next (doNothing s)

/-- `STOP` (R483). -/
def execStop (n : Byte) (s : State) : Result := .next (stopCpu n s)

/-- `HALT` (R481). -/
def execHalt (s : State) : Result := .next (haltCpu s)

/-- `illegal 0xD3` (R486). -/
def execIllegalD3 (s : State) : Result := illegalOpcode 0xD3 s

/-- `illegal 0xDB` (R486). -/
def execIllegalDB (s : State) : Result := illegalOpcode 0xDB s

/-- `illegal 0xDD` (R486). -/
def execIllegalDD (s : State) : Result := illegalOpcode 0xDD s

/-- `illegal 0xE3` (R486). -/
def execIllegalE3 (s : State) : Result := illegalOpcode 0xE3 s

/-- `illegal 0xE4` (R486). -/
def execIllegalE4 (s : State) : Result := illegalOpcode 0xE4 s

/-- `illegal 0xEB` (R486). -/
def execIllegalEB (s : State) : Result := illegalOpcode 0xEB s

/-- `illegal 0xEC` (R486). -/
def execIllegalEC (s : State) : Result := illegalOpcode 0xEC s

/-- `illegal 0xED` (R486). -/
def execIllegalED (s : State) : Result := illegalOpcode 0xED s

/-- `DI` (R484). -/
def execDi (s : State) : Result := .next (disableInterrupts s)

/-- `illegal 0xF4` (R486). -/
def execIllegalF4 (s : State) : Result := illegalOpcode 0xF4 s

/-- `EI` (R485). -/
def execEi (s : State) : Result := .next (enableInterrupts s)

/-- `illegal 0xFC` (R486). -/
def execIllegalFC (s : State) : Result := illegalOpcode 0xFC s

/-- `illegal 0xFD` (R486). -/
def execIllegalFD (s : State) : Result := illegalOpcode 0xFD s

/-- `PREFIX CB` (R487). -/
def execPrefixCb (s : State) : Result := .next (runPrefixed s)

end Sys2Proof.Machine
end

