-- ==== Sys2Proof/Machine/Devices.lean ====
section
/-! DEFINITION. The PPU's clock (60_exceptions.md R641) and the device window of a step (R611). -/

namespace Sys2Proof.Machine

/-- The end of a line: the next line, the window counter, the frame, VBlank (R641, R655, R659). -/
def lineEnd (s : State) : State :=
  let p := s.ppu
  let wl := if p.windowDrew then p.windowLine + 1 else p.windowLine
  let s := { s with ppu := { p with dot := 0, windowLine := wl, windowDrew := false, ly := p.ly + 1 } }
  let s := if s.ppu.ly = 154 then frameStart { s with ppu := { s.ppu with ly := 0, windowLine := 0 } } else s
  if s.ppu.ly = 144 then callBack (request { s with ppu := { s.ppu with mode := .vblank } } 0) .vblank
  else if s.ppu.ly < 144 then { s with ppu := { s.ppu with mode := .oamScan } }
  else s

/-- Dot 80 of a visible line: sprite selection and mode 3 (R641, R645, log 10). -/
def scanEnd (s : State) : State :=
  { s with
    ppu := { s.ppu with sprites := selectSprites s, spriteHeight := objHeight s.ppu.lcdc, mode := .pixelTransfer } }

/-- Dot 252 of a visible line: draw it, enter HBLANK, and the H-Blank hook (R641, R188). DEDUCED (log 35): the line is
drawn from the registers as they are at this dot (R641, D26), so a change in mode 3 affects this line and one in mode 0
the next, although R658 says otherwise of both. -/
def drawEnd (s : State) : State :=
  let s := renderLine s
  hblankHook { s with ppu := { s.ppu with mode := .hblank } }

/-- `PpuDot()` (R641). -/
def ppuDot (s : State) : State :=
  if lcdOn s then
    let s := { s with ppu := { s.ppu with dot := s.ppu.dot + 1 } }
    if s.ppu.dot = 456 then statUpdate (lineEnd s)
    else if s.ppu.ly < 144 ∧ s.ppu.dot = 80 then statUpdate (scanEnd s)
    else if s.ppu.ly < 144 ∧ s.ppu.dot = 252 then statUpdate (drawEnd s)
    else statUpdate s
  else s

/-- T-cycle k of a device window at a speed (`fast`: double speed): the timer and the serial port every T-cycle, the
others every dot (R611). -/
def deviceTick (fast : Bool) (k : Nat) (s : State) : State :=
  let s := serialTick (timerTick s)
  if !fast || decide (k % 2 = 1) then rtcDot (apuDot (ppuDot s)) else s

/-- T-cycles k, k + 1, ... of a device window, n of them. -/
def deviceTicks (fast : Bool) : Nat → Nat → State → State
  | 0, _, s => s
  | n + 1, k, s => deviceTicks fast n (k + 1) (deviceTick fast k s)

/-- `AdvanceDevices(t)` (R611). -/
def advanceDevices (fast : Bool) (t : Nat) (s : State) : State := deviceTicks fast t 0 s

end Sys2Proof.Machine
end

