-- ==== Sys2Proof/Machine/Cycle.lean ====
section
/-! DEFINITION. The pieces of one step but for the dispatch itself: what the step does next (60_exceptions.md R610), the
instruction fetch (R35, R482), the idle steps (R613, R614), the EI delay (R612), the device window, and placing an
instruction where the next step fetches it. -/

namespace Sys2Proof.Machine

/-- The start of a step: nothing spent and no callback made yet (log 8, log 9). -/
def beginStep (s : State) : State := { s with cost := 0, callbacks := [] }

/-- What a step does, in the order of R610. -/
inductive Action where
  /-- A fault is recorded: the step returns it again. -/
  | faulted (op : Byte) (cb : Bool)
  /-- STOP low-power state (R614). -/
  | stopped
  /-- An enabled interrupt is pending (R602, R603). -/
  | dispatch
  /-- HALT (R613). -/
  | halted
  /-- Fetch and execute an instruction. -/
  | fetch
  deriving DecidableEq, Repr

/-- What the step at `s` does (R610, R602). -/
def nextAction (s : State) : Action :=
  match s.cpu.fault with
  | some (op, cb) => .faulted op cb
  | none =>
    if s.cpu.stopped then .stopped
    else if s.cpu.ime && decide (pendingIrq s ≠ 0) then .dispatch
    else if s.cpu.halted then .halted
    else .fetch

/-- The instruction at pc and the state after its bytes are fetched, one byte at a time (R104, R35, R487, log 11). -/
def fetchInstr (s : State) : Instr × State :=
  let f0 := fetch8 s
  match instrLength f0.1 with
  | 1 => (decodeBytes f0.1 0 0, f0.2)
  | 2 =>
    let f1 := fetch8 f0.2
    (decodeBytes f0.1 f1.1 0, f1.2)
  | _ =>
    let f1 := fetch8 f0.2
    let f2 := fetch8 f1.2
    (decodeBytes f0.1 f1.1 f2.1, f2.2)

/-- The EI delay: an EI pending before the instruction, and still pending after it, enables now (R612). -/
def finishInstr (pend : Bool) (s : State) : State :=
  if pend && s.cpu.eiPending then { s with cpu := { s.cpu with ime := true, eiPending := false } } else s

/-- The device window: every device advances by the step's cost, and the cost is counted (R610, R611). The speed is the
one the step began at: a speed switch takes effect for the device clocks of the next step (R483, log 32). -/
def finishStep (fast : Bool) (s : State) : State :=
  let t := advanceDevices fast s.cost s
  { t with cpu := { t.cpu with cycleCount := t.cpu.cycleCount + s.cost } }

/-- `HaltedStep()` (R613). -/
def haltedStep (s : State) : State :=
  spend (if pendingIrq s ≠ 0 then { s with cpu := { s.cpu with halted := false } } else s) 4

/-- `StoppedStep()`, with its 4 T-cycles; no device moves (R614, R610). -/
def stoppedStep (s : State) : State :=
  let s := if p1Lines s.joypad ≠ 0xF then { s with cpu := { s.cpu with stopped := false } } else s
  let s := spend s 4
  { s with cpu := { s.cpu with cycleCount := s.cpu.cycleCount + 4 } }

/-- Place one byte where a fetch at address `a` reads it; an address that no memory holds is left as it is. -/
def plantByte (s : State) (a : Word) (v : Byte) : State :=
  match route s a with
  | .mbc n => poke s .rom (romIndex s n) v
  | .cell r i => poke s r i v
  | .ext n =>
    match extTarget s n with
    | .ram i => poke s .cartRam i v
    | _ => s
  | _ => s

/-- Place bytes from address `a` on. -/
def plantBytes (s : State) (a : Word) : List Byte → State
  | [] => s
  | v :: rest => plantBytes (plantByte s a v) (a + 1) rest

/-- The bytes a fetch at `a` reads. -/
def bytesAt (s : State) (a : Word) : Nat → List Byte
  | 0 => []
  | n + 1 => memRead s a :: bytesAt s (a + 1) n

/-- A state in which the next step fetches an instruction at pc: no fault, not stopped, not halted, no HALT bug, and
IME off where an interrupt is pending (log 28). -/
def readyToFetch (s : State) : State :=
  { s with
    cpu :=
      { s.cpu with
        fault := none, stopped := false, halted := false, haltBug := false
        ime := s.cpu.ime && decide (pendingIrq s = 0) } }

/-- `bs` placed where the next step fetches: at pc, or, where the bytes do not read back from there, at 0xC000 with pc
moved to it (log 28). -/
def placeProgram (s : State) (bs : List Byte) : State :=
  let s := readyToFetch s
  let t := plantBytes s s.cpu.pc bs
  if bytesAt t t.cpu.pc bs.length = bs then t else plantBytes (setPc s 0xC000) 0xC000 bs

end Sys2Proof.Machine
end

