-- ==== Sys2Proof/Machine/Alu16.lean ====
section
/-! DEFINITION. 16-bit arithmetic (43_alu16.md R389-R393). -/

namespace Sys2Proof.Machine

/-- `ADD HL, rr` (R390). -/
def addToHL (p : Pair) (cost : Nat) (s : State) : State :=
  let r := add16 (readPair s .hl) (readPair s p) s.cpu.flags
  spend (setFlags (writePair s .hl r.1) r.2) cost

/-- INC rr and DEC rr: no flag is written (R391, R392). -/
def stepPair (p : Pair) (step : Word) (cost : Nat) (s : State) : State :=
  spend (writePair s p (readPair s p + step)) cost

/-- `ADD SP, e8` (R393). -/
def addToSp (e : Byte) (cost : Nat) (s : State) : State :=
  spend (setFlags (setSp s (addOffset s.cpu.sp e).1) (addOffset s.cpu.sp e).2) cost

/-- `INC BC` (R391). -/
def execIncBC (s : State) : Result := .next (stepPair .bc 1 8 s)

/-- `ADD HL, BC` (R390). -/
def execAddHLBC (s : State) : Result := .next (addToHL .bc 8 s)

/-- `DEC BC` (R392). -/
def execDecBC (s : State) : Result := .next (stepPair .bc (-1) 8 s)

/-- `INC DE` (R391). -/
def execIncDE (s : State) : Result := .next (stepPair .de 1 8 s)

/-- `ADD HL, DE` (R390). -/
def execAddHLDE (s : State) : Result := .next (addToHL .de 8 s)

/-- `DEC DE` (R392). -/
def execDecDE (s : State) : Result := .next (stepPair .de (-1) 8 s)

/-- `INC HL` (R391). -/
def execIncHL (s : State) : Result := .next (stepPair .hl 1 8 s)

/-- `ADD HL, HL` (R390). -/
def execAddHLHL (s : State) : Result := .next (addToHL .hl 8 s)

/-- `DEC HL` (R392). -/
def execDecHL (s : State) : Result := .next (stepPair .hl (-1) 8 s)

/-- `INC SP` (R391). -/
def execIncSP (s : State) : Result := .next (stepPair .sp 1 8 s)

/-- `ADD HL, SP` (R390). -/
def execAddHLSP (s : State) : Result := .next (addToHL .sp 8 s)

/-- `DEC SP` (R392). -/
def execDecSP (s : State) : Result := .next (stepPair .sp (-1) 8 s)

/-- `ADD SP, e8` (R393). -/
def execAddSPe8 (e : Byte) (s : State) : Result := .next (addToSp e 16 s)

end Sys2Proof.Machine
end

