-- ==== Sys2Proof/Machine/Alu8.lean ====
section
/-! DEFINITION. 8-bit arithmetic and logic (42_alu8.md R350-R381). -/

namespace Sys2Proof.Machine

/-- An 8-bit ALU operation on A and an operand (R350-R373). -/
def aluA (op : AluOp) (o : Source) (cost : Nat) (s : State) : State :=
  let r := aluResult op s.cpu.a (sourceByte s o) s.cpu.flags.c
  spend (setFlags (writeReg s .a r.1) r.2) cost

/-- INC on a register or the byte at HL (R374, R375). -/
def incPlace (p : Place) (cost : Nat) (s : State) : State :=
  let r := incResult (placeByte s p) s.cpu.flags
  spend (setFlags (placeWrite s p r.1) r.2) cost

/-- DEC on a register or the byte at HL (R376, R377). -/
def decPlace (p : Place) (cost : Nat) (s : State) : State :=
  let r := decResult (placeByte s p) s.cpu.flags
  spend (setFlags (placeWrite s p r.1) r.2) cost

/-- DAA (R378). -/
def decimalAdjust (cost : Nat) (s : State) : State :=
  let r := daaResult s.cpu.a s.cpu.flags
  spend (setFlags (writeReg s .a r.1) r.2) cost

/-- CPL (R379). -/
def complementA (cost : Nat) (s : State) : State :=
  spend (setFlags (writeReg s .a (~~~s.cpu.a)) { s.cpu.flags with n := true, h := true }) cost

/-- SCF (R380). -/
def setCarry (cost : Nat) (s : State) : State :=
  spend (setFlags s { s.cpu.flags with n := false, h := false, c := true }) cost

/-- CCF (R381). -/
def complementCarry (cost : Nat) (s : State) : State :=
  spend (setFlags s { s.cpu.flags with n := false, h := false, c := !s.cpu.flags.c }) cost

/-- `INC B` (R374). -/
def execIncB (s : State) : Result := .next (incPlace (.reg .b) 4 s)

/-- `DEC B` (R376). -/
def execDecB (s : State) : Result := .next (decPlace (.reg .b) 4 s)

/-- `INC C` (R374). -/
def execIncC (s : State) : Result := .next (incPlace (.reg .c) 4 s)

/-- `DEC C` (R376). -/
def execDecC (s : State) : Result := .next (decPlace (.reg .c) 4 s)

/-- `INC D` (R374). -/
def execIncD (s : State) : Result := .next (incPlace (.reg .d) 4 s)

/-- `DEC D` (R376). -/
def execDecD (s : State) : Result := .next (decPlace (.reg .d) 4 s)

/-- `INC E` (R374). -/
def execIncE (s : State) : Result := .next (incPlace (.reg .e) 4 s)

/-- `DEC E` (R376). -/
def execDecE (s : State) : Result := .next (decPlace (.reg .e) 4 s)

/-- `INC H` (R374). -/
def execIncH (s : State) : Result := .next (incPlace (.reg .h) 4 s)

/-- `DEC H` (R376). -/
def execDecH (s : State) : Result := .next (decPlace (.reg .h) 4 s)

/-- `DAA` (R378). -/
def execDaa (s : State) : Result := .next (decimalAdjust 4 s)

/-- `INC L` (R374). -/
def execIncL (s : State) : Result := .next (incPlace (.reg .l) 4 s)

/-- `DEC L` (R376). -/
def execDecL (s : State) : Result := .next (decPlace (.reg .l) 4 s)

/-- `CPL` (R379). -/
def execCpl (s : State) : Result := .next (complementA 4 s)

/-- `INC (HL)` (R375). -/
def execIncAtHL (s : State) : Result := .next (incPlace .atHL 12 s)

/-- `DEC (HL)` (R377). -/
def execDecAtHL (s : State) : Result := .next (decPlace .atHL 12 s)

/-- `SCF` (R380). -/
def execScf (s : State) : Result := .next (setCarry 4 s)

/-- `INC A` (R374). -/
def execIncA (s : State) : Result := .next (incPlace (.reg .a) 4 s)

/-- `DEC A` (R376). -/
def execDecA (s : State) : Result := .next (decPlace (.reg .a) 4 s)

/-- `CCF` (R381). -/
def execCcf (s : State) : Result := .next (complementCarry 4 s)

/-- `ADD A, B` (R350). -/
def execAddAB (s : State) : Result := .next (aluA .add (.reg .b) 4 s)

/-- `ADD A, C` (R350). -/
def execAddAC (s : State) : Result := .next (aluA .add (.reg .c) 4 s)

/-- `ADD A, D` (R350). -/
def execAddAD (s : State) : Result := .next (aluA .add (.reg .d) 4 s)

/-- `ADD A, E` (R350). -/
def execAddAE (s : State) : Result := .next (aluA .add (.reg .e) 4 s)

/-- `ADD A, H` (R350). -/
def execAddAH (s : State) : Result := .next (aluA .add (.reg .h) 4 s)

/-- `ADD A, L` (R350). -/
def execAddAL (s : State) : Result := .next (aluA .add (.reg .l) 4 s)

/-- `ADD A, (HL)` (R351). -/
def execAddAAtHL (s : State) : Result := .next (aluA .add .atHL 8 s)

/-- `ADD A, A` (R350). -/
def execAddAA (s : State) : Result := .next (aluA .add (.reg .a) 4 s)

/-- `ADC A, B` (R353). -/
def execAdcAB (s : State) : Result := .next (aluA .adc (.reg .b) 4 s)

/-- `ADC A, C` (R353). -/
def execAdcAC (s : State) : Result := .next (aluA .adc (.reg .c) 4 s)

/-- `ADC A, D` (R353). -/
def execAdcAD (s : State) : Result := .next (aluA .adc (.reg .d) 4 s)

/-- `ADC A, E` (R353). -/
def execAdcAE (s : State) : Result := .next (aluA .adc (.reg .e) 4 s)

/-- `ADC A, H` (R353). -/
def execAdcAH (s : State) : Result := .next (aluA .adc (.reg .h) 4 s)

/-- `ADC A, L` (R353). -/
def execAdcAL (s : State) : Result := .next (aluA .adc (.reg .l) 4 s)

/-- `ADC A, (HL)` (R354). -/
def execAdcAAtHL (s : State) : Result := .next (aluA .adc .atHL 8 s)

/-- `ADC A, A` (R353). -/
def execAdcAA (s : State) : Result := .next (aluA .adc (.reg .a) 4 s)

/-- `SUB B` (R356). -/
def execSubB (s : State) : Result := .next (aluA .sub (.reg .b) 4 s)

/-- `SUB C` (R356). -/
def execSubC (s : State) : Result := .next (aluA .sub (.reg .c) 4 s)

/-- `SUB D` (R356). -/
def execSubD (s : State) : Result := .next (aluA .sub (.reg .d) 4 s)

/-- `SUB E` (R356). -/
def execSubE (s : State) : Result := .next (aluA .sub (.reg .e) 4 s)

/-- `SUB H` (R356). -/
def execSubH (s : State) : Result := .next (aluA .sub (.reg .h) 4 s)

/-- `SUB L` (R356). -/
def execSubL (s : State) : Result := .next (aluA .sub (.reg .l) 4 s)

/-- `SUB (HL)` (R357). -/
def execSubAtHL (s : State) : Result := .next (aluA .sub .atHL 8 s)

/-- `SUB A` (R356). -/
def execSubA (s : State) : Result := .next (aluA .sub (.reg .a) 4 s)

/-- `SBC A, B` (R359). -/
def execSbcAB (s : State) : Result := .next (aluA .sbc (.reg .b) 4 s)

/-- `SBC A, C` (R359). -/
def execSbcAC (s : State) : Result := .next (aluA .sbc (.reg .c) 4 s)

/-- `SBC A, D` (R359). -/
def execSbcAD (s : State) : Result := .next (aluA .sbc (.reg .d) 4 s)

/-- `SBC A, E` (R359). -/
def execSbcAE (s : State) : Result := .next (aluA .sbc (.reg .e) 4 s)

/-- `SBC A, H` (R359). -/
def execSbcAH (s : State) : Result := .next (aluA .sbc (.reg .h) 4 s)

/-- `SBC A, L` (R359). -/
def execSbcAL (s : State) : Result := .next (aluA .sbc (.reg .l) 4 s)

/-- `SBC A, (HL)` (R360). -/
def execSbcAAtHL (s : State) : Result := .next (aluA .sbc .atHL 8 s)

/-- `SBC A, A` (R359). -/
def execSbcAA (s : State) : Result := .next (aluA .sbc (.reg .a) 4 s)

/-- `AND B` (R362). -/
def execAndB (s : State) : Result := .next (aluA .and (.reg .b) 4 s)

/-- `AND C` (R362). -/
def execAndC (s : State) : Result := .next (aluA .and (.reg .c) 4 s)

/-- `AND D` (R362). -/
def execAndD (s : State) : Result := .next (aluA .and (.reg .d) 4 s)

/-- `AND E` (R362). -/
def execAndE (s : State) : Result := .next (aluA .and (.reg .e) 4 s)

/-- `AND H` (R362). -/
def execAndH (s : State) : Result := .next (aluA .and (.reg .h) 4 s)

/-- `AND L` (R362). -/
def execAndL (s : State) : Result := .next (aluA .and (.reg .l) 4 s)

/-- `AND (HL)` (R363). -/
def execAndAtHL (s : State) : Result := .next (aluA .and .atHL 8 s)

/-- `AND A` (R362). -/
def execAndA (s : State) : Result := .next (aluA .and (.reg .a) 4 s)

/-- `XOR B` (R365). -/
def execXorB (s : State) : Result := .next (aluA .xor (.reg .b) 4 s)

/-- `XOR C` (R365). -/
def execXorC (s : State) : Result := .next (aluA .xor (.reg .c) 4 s)

/-- `XOR D` (R365). -/
def execXorD (s : State) : Result := .next (aluA .xor (.reg .d) 4 s)

/-- `XOR E` (R365). -/
def execXorE (s : State) : Result := .next (aluA .xor (.reg .e) 4 s)

/-- `XOR H` (R365). -/
def execXorH (s : State) : Result := .next (aluA .xor (.reg .h) 4 s)

/-- `XOR L` (R365). -/
def execXorL (s : State) : Result := .next (aluA .xor (.reg .l) 4 s)

/-- `XOR (HL)` (R366). -/
def execXorAtHL (s : State) : Result := .next (aluA .xor .atHL 8 s)

/-- `XOR A` (R365). -/
def execXorA (s : State) : Result := .next (aluA .xor (.reg .a) 4 s)

/-- `OR B` (R368). -/
def execOrB (s : State) : Result := .next (aluA .or (.reg .b) 4 s)

/-- `OR C` (R368). -/
def execOrC (s : State) : Result := .next (aluA .or (.reg .c) 4 s)

/-- `OR D` (R368). -/
def execOrD (s : State) : Result := .next (aluA .or (.reg .d) 4 s)

/-- `OR E` (R368). -/
def execOrE (s : State) : Result := .next (aluA .or (.reg .e) 4 s)

/-- `OR H` (R368). -/
def execOrH (s : State) : Result := .next (aluA .or (.reg .h) 4 s)

/-- `OR L` (R368). -/
def execOrL (s : State) : Result := .next (aluA .or (.reg .l) 4 s)

/-- `OR (HL)` (R369). -/
def execOrAtHL (s : State) : Result := .next (aluA .or .atHL 8 s)

/-- `OR A` (R368). -/
def execOrA (s : State) : Result := .next (aluA .or (.reg .a) 4 s)

/-- `CP B` (R371). -/
def execCpB (s : State) : Result := .next (aluA .cp (.reg .b) 4 s)

/-- `CP C` (R371). -/
def execCpC (s : State) : Result := .next (aluA .cp (.reg .c) 4 s)

/-- `CP D` (R371). -/
def execCpD (s : State) : Result := .next (aluA .cp (.reg .d) 4 s)

/-- `CP E` (R371). -/
def execCpE (s : State) : Result := .next (aluA .cp (.reg .e) 4 s)

/-- `CP H` (R371). -/
def execCpH (s : State) : Result := .next (aluA .cp (.reg .h) 4 s)

/-- `CP L` (R371). -/
def execCpL (s : State) : Result := .next (aluA .cp (.reg .l) 4 s)

/-- `CP (HL)` (R372). -/
def execCpAtHL (s : State) : Result := .next (aluA .cp .atHL 8 s)

/-- `CP A` (R371). -/
def execCpA (s : State) : Result := .next (aluA .cp (.reg .a) 4 s)

/-- `ADD A, d8` (R352). -/
def execAddAd8 (n : Byte) (s : State) : Result := .next (aluA .add (.imm n) 8 s)

/-- `ADC A, d8` (R355). -/
def execAdcAd8 (n : Byte) (s : State) : Result := .next (aluA .adc (.imm n) 8 s)

/-- `SUB d8` (R358). -/
def execSubd8 (n : Byte) (s : State) : Result := .next (aluA .sub (.imm n) 8 s)

/-- `SBC A, d8` (R361). -/
def execSbcAd8 (n : Byte) (s : State) : Result := .next (aluA .sbc (.imm n) 8 s)

/-- `AND d8` (R364). -/
def execAndd8 (n : Byte) (s : State) : Result := .next (aluA .and (.imm n) 8 s)

/-- `XOR d8` (R367). -/
def execXord8 (n : Byte) (s : State) : Result := .next (aluA .xor (.imm n) 8 s)

/-- `OR d8` (R370). -/
def execOrd8 (n : Byte) (s : State) : Result := .next (aluA .or (.imm n) 8 s)

/-- `CP d8` (R373). -/
def execCpd8 (n : Byte) (s : State) : Result := .next (aluA .cp (.imm n) 8 s)

end Sys2Proof.Machine
end

