-- ==== Sys2Proof/Machine/Control.lean ====
section
/-! DEFINITION. Jumps, calls, returns and restarts (45_control.md R449-R462). No control transfer writes a flag; `pc` is
the address of the next instruction when a meaning runs (R35). -/

namespace Sys2Proof.Machine

/-- A conditional instruction: `taken` at its taken cost, or nothing at the other (R449). -/
def conditional (cc : Cond) (taken : State → State) (cost costNot : Nat) (s : State) : State :=
  if condHolds cc s.cpu.flags then spend (taken s) cost else spend s costNot

/-- The target of a relative jump (R453). -/
def relTarget (s : State) (e : Byte) : Word := s.cpu.pc + sext16 e

/-- JP a16 (R450). -/
def jumpTo (t : Word) (cost : Nat) (s : State) : State := spend (setPc s t) cost

/-- JP cc, a16 (R451). -/
def jumpIf (cc : Cond) (t : Word) (cost costNot : Nat) (s : State) : State :=
  conditional cc (fun s => setPc s t) cost costNot s

/-- JP HL (R452). -/
def jumpHL (cost : Nat) (s : State) : State := spend (setPc s (readPair s .hl)) cost

/-- JR e8 (R453). -/
def jumpRel (e : Byte) (cost : Nat) (s : State) : State := spend (setPc s (relTarget s e)) cost

/-- JR cc, e8 (R454). -/
def jumpRelIf (cc : Cond) (e : Byte) (cost costNot : Nat) (s : State) : State :=
  conditional cc (fun s => setPc s (relTarget s e)) cost costNot s

/-- CALL a16 and RST: push the pc, then jump (R455, R462). -/
def callSub (t : Word) (cost : Nat) (s : State) : State := spend (callTo s t) cost

/-- CALL cc, a16 (R456). -/
def callSubIf (cc : Cond) (t : Word) (cost costNot : Nat) (s : State) : State :=
  conditional cc (fun s => callTo s t) cost costNot s

/-- RET (R457). -/
def returnSub (cost : Nat) (s : State) : State := spend (popPc s) cost

/-- RET cc (R458). -/
def returnSubIf (cc : Cond) (cost costNot : Nat) (s : State) : State := conditional cc popPc cost costNot s

/-- RETI (R459). -/
def returnInt (cost : Nat) (s : State) : State := spend (returnFromInterrupt s) cost

/-- `JR e8` (R453). -/
def execJr (e : Byte) (s : State) : Result := .next (jumpRel e 12 s)

/-- `JR NZ, e8` (R454). -/
def execJrNZ (e : Byte) (s : State) : Result := .next (jumpRelIf .nz e 12 8 s)

/-- `JR Z, e8` (R454). -/
def execJrZ (e : Byte) (s : State) : Result := .next (jumpRelIf .z e 12 8 s)

/-- `JR NC, e8` (R454). -/
def execJrNC (e : Byte) (s : State) : Result := .next (jumpRelIf .nc e 12 8 s)

/-- `JR C, e8` (R454). -/
def execJrC (e : Byte) (s : State) : Result := .next (jumpRelIf .c e 12 8 s)

/-- `RET NZ` (R458). -/
def execRetNZ (s : State) : Result := .next (returnSubIf .nz 20 8 s)

/-- `JP NZ, a16` (R451). -/
def execJpNZ (t : Word) (s : State) : Result := .next (jumpIf .nz t 16 12 s)

/-- `JP a16` (R450). -/
def execJp (t : Word) (s : State) : Result := .next (jumpTo t 16 s)

/-- `CALL NZ, a16` (R456). -/
def execCallNZ (t : Word) (s : State) : Result := .next (callSubIf .nz t 24 12 s)

/-- `RST 0x00` (R462). -/
def execRst00 (s : State) : Result := .next (callSub 0x0000 16 s)

/-- `RET Z` (R458). -/
def execRetZ (s : State) : Result := .next (returnSubIf .z 20 8 s)

/-- `RET` (R457). -/
def execRet (s : State) : Result := .next (returnSub 16 s)

/-- `JP Z, a16` (R451). -/
def execJpZ (t : Word) (s : State) : Result := .next (jumpIf .z t 16 12 s)

/-- `CALL Z, a16` (R456). -/
def execCallZ (t : Word) (s : State) : Result := .next (callSubIf .z t 24 12 s)

/-- `CALL a16` (R455). -/
def execCall (t : Word) (s : State) : Result := .next (callSub t 24 s)

/-- `RST 0x08` (R462). -/
def execRst08 (s : State) : Result := .next (callSub 0x0008 16 s)

/-- `RET NC` (R458). -/
def execRetNC (s : State) : Result := .next (returnSubIf .nc 20 8 s)

/-- `JP NC, a16` (R451). -/
def execJpNC (t : Word) (s : State) : Result := .next (jumpIf .nc t 16 12 s)

/-- `CALL NC, a16` (R456). -/
def execCallNC (t : Word) (s : State) : Result := .next (callSubIf .nc t 24 12 s)

/-- `RST 0x10` (R462). -/
def execRst10 (s : State) : Result := .next (callSub 0x0010 16 s)

/-- `RET C` (R458). -/
def execRetC (s : State) : Result := .next (returnSubIf .c 20 8 s)

/-- `RETI` (R459). -/
def execReti (s : State) : Result := .next (returnInt 16 s)

/-- `JP C, a16` (R451). -/
def execJpC (t : Word) (s : State) : Result := .next (jumpIf .c t 16 12 s)

/-- `CALL C, a16` (R456). -/
def execCallC (t : Word) (s : State) : Result := .next (callSubIf .c t 24 12 s)

/-- `RST 0x18` (R462). -/
def execRst18 (s : State) : Result := .next (callSub 0x0018 16 s)

/-- `RST 0x20` (R462). -/
def execRst20 (s : State) : Result := .next (callSub 0x0020 16 s)

/-- `JP HL` (R452). -/
def execJpHL (s : State) : Result := .next (jumpHL 4 s)

/-- `RST 0x28` (R462). -/
def execRst28 (s : State) : Result := .next (callSub 0x0028 16 s)

/-- `RST 0x30` (R462). -/
def execRst30 (s : State) : Result := .next (callSub 0x0030 16 s)

/-- `RST 0x38` (R462). -/
def execRst38 (s : State) : Result := .next (callSub 0x0038 16 s)

end Sys2Proof.Machine
end

