-- ==== Sys2Proof/Machine/Loads16.lean ====
section
/-! DEFINITION. The 16-bit loads and the stack (41_loads16.md R330-R338). -/

namespace Sys2Proof.Machine

/-- `rr(p) <- v` (R330). -/
def loadPair (p : Pair) (v : Word) (cost : Nat) (s : State) : State := spend (writePair s p v) cost

/-- Store SP at an address, low byte first (R331). -/
def storeSp (a : Word) (cost : Nat) (s : State) : State := spend (write16 s a s.cpu.sp) cost

/-- `sp <- rr(HL)` (R332). -/
def loadSpHL (cost : Nat) (s : State) : State := spend (setSp s (readPair s .hl)) cost

/-- `rr(HL) <- sp + e`, with the flags of the offset addition (R333). -/
def loadHLSp (e : Byte) (cost : Nat) (s : State) : State :=
  spend (setFlags (writePair s .hl (addOffset s.cpu.sp e).1) (addOffset s.cpu.sp e).2) cost

/-- Push a pair (R334, R336). -/
def pushPair (p : StackPair) (cost : Nat) (s : State) : State := spend (push16 s (readStackPair s p)) cost

/-- Pop a pair; POP AF writes the flags (R337, R338). -/
def popPair (p : StackPair) (cost : Nat) (s : State) : State :=
  spend (writeStackPair (popSp s) p (popped s)) cost

/-- `LD BC, d16` (R330). -/
def execLdBCd16 (v : Word) (s : State) : Result := .next (loadPair .bc v 12 s)

/-- `LD (a16), SP` (R331). -/
def execLdAtA16SP (t : Word) (s : State) : Result := .next (storeSp t 20 s)

/-- `LD DE, d16` (R330). -/
def execLdDEd16 (v : Word) (s : State) : Result := .next (loadPair .de v 12 s)

/-- `LD HL, d16` (R330). -/
def execLdHLd16 (v : Word) (s : State) : Result := .next (loadPair .hl v 12 s)

/-- `LD SP, d16` (R330). -/
def execLdSPd16 (v : Word) (s : State) : Result := .next (loadPair .sp v 12 s)

/-- `POP BC` (R337). -/
def execPopBC (s : State) : Result := .next (popPair .bc 12 s)

/-- `PUSH BC` (R334). -/
def execPushBC (s : State) : Result := .next (pushPair .bc 16 s)

/-- `POP DE` (R337). -/
def execPopDE (s : State) : Result := .next (popPair .de 12 s)

/-- `PUSH DE` (R334). -/
def execPushDE (s : State) : Result := .next (pushPair .de 16 s)

/-- `POP HL` (R337). -/
def execPopHL (s : State) : Result := .next (popPair .hl 12 s)

/-- `PUSH HL` (R334). -/
def execPushHL (s : State) : Result := .next (pushPair .hl 16 s)

/-- `POP AF` (R338). -/
def execPopAF (s : State) : Result := .next (popPair .af 12 s)

/-- `PUSH AF` (R336). -/
def execPushAF (s : State) : Result := .next (pushPair .af 16 s)

/-- `LD HL, SP+e8` (R333). -/
def execLdHLSPe8 (e : Byte) (s : State) : Result := .next (loadHLSp e 12 s)

/-- `LD SP, HL` (R332). -/
def execLdSPHL (s : State) : Result := .next (loadSpHL 8 s)

end Sys2Proof.Machine
end

