-- ==== Sys2Proof/Machine/Loads8.lean ====
section
/-! DEFINITION. The 8-bit loads (40_loads8.md R300-R318). No load writes a flag or raises an exception. -/

namespace Sys2Proof.Machine

/-- `x[dst] <- operand` (R300-R302). -/
def loadReg (dst : Reg8) (o : Source) (cost : Nat) (s : State) : State :=
  spend (writeReg s dst (sourceByte s o)) cost

/-- Store an operand at HL (R303, R304). -/
def storeHL (o : Source) (cost : Nat) (s : State) : State := spend (writeAtHL s (sourceByte s o)) cost

/-- Load A from an address (R305, R306, R309, R311, R313). -/
def loadA (a : Address) (cost : Nat) (s : State) : State :=
  spend (writeReg s .a (memRead s (addressOf s a))) cost

/-- Store A at an address (R307, R308, R310, R312, R314). -/
def storeA (a : Address) (cost : Nat) (s : State) : State := spend (memWrite s (addressOf s a) s.cpu.a) cost

/-- Load A from HL, then HL moves by `step` (R315, R316). -/
def loadAStep (step : Word) (cost : Nat) (s : State) : State :=
  spend (writePair (writeReg s .a (readAtHL s)) .hl (readPair s .hl + step)) cost

/-- Store A at HL, then HL moves by `step` (R317, R318). -/
def storeAStep (step : Word) (cost : Nat) (s : State) : State :=
  spend (writePair (writeAtHL s s.cpu.a) .hl (readPair s .hl + step)) cost

/-- `LD (BC), A` (R307). -/
def execLdAtBCA (s : State) : Result := .next (storeA (.pair .bc) 8 s)

/-- `LD B, d8` (R301). -/
def execLdBd8 (n : Byte) (s : State) : Result := .next (loadReg .b (.imm n) 8 s)

/-- `LD A, (BC)` (R305). -/
def execLdAAtBC (s : State) : Result := .next (loadA (.pair .bc) 8 s)

/-- `LD C, d8` (R301). -/
def execLdCd8 (n : Byte) (s : State) : Result := .next (loadReg .c (.imm n) 8 s)

/-- `LD (DE), A` (R308). -/
def execLdAtDEA (s : State) : Result := .next (storeA (.pair .de) 8 s)

/-- `LD D, d8` (R301). -/
def execLdDd8 (n : Byte) (s : State) : Result := .next (loadReg .d (.imm n) 8 s)

/-- `LD A, (DE)` (R306). -/
def execLdAAtDE (s : State) : Result := .next (loadA (.pair .de) 8 s)

/-- `LD E, d8` (R301). -/
def execLdEd8 (n : Byte) (s : State) : Result := .next (loadReg .e (.imm n) 8 s)

/-- `LD (HL+), A` (R317). -/
def execLdAtHLIncA (s : State) : Result := .next (storeAStep 1 8 s)

/-- `LD H, d8` (R301). -/
def execLdHd8 (n : Byte) (s : State) : Result := .next (loadReg .h (.imm n) 8 s)

/-- `LD A, (HL+)` (R315). -/
def execLdAAtHLInc (s : State) : Result := .next (loadAStep 1 8 s)

/-- `LD L, d8` (R301). -/
def execLdLd8 (n : Byte) (s : State) : Result := .next (loadReg .l (.imm n) 8 s)

/-- `LD (HL-), A` (R318). -/
def execLdAtHLDecA (s : State) : Result := .next (storeAStep (-1) 8 s)

/-- `LD (HL), d8` (R304). -/
def execLdAtHLd8 (n : Byte) (s : State) : Result := .next (storeHL (.imm n) 12 s)

/-- `LD A, (HL-)` (R316). -/
def execLdAAtHLDec (s : State) : Result := .next (loadAStep (-1) 8 s)

/-- `LD A, d8` (R301). -/
def execLdAd8 (n : Byte) (s : State) : Result := .next (loadReg .a (.imm n) 8 s)

/-- `LD B, B` (R300). -/
def execLdBB (s : State) : Result := .next (loadReg .b (.reg .b) 4 s)

/-- `LD B, C` (R300). -/
def execLdBC (s : State) : Result := .next (loadReg .b (.reg .c) 4 s)

/-- `LD B, D` (R300). -/
def execLdBD (s : State) : Result := .next (loadReg .b (.reg .d) 4 s)

/-- `LD B, E` (R300). -/
def execLdBE (s : State) : Result := .next (loadReg .b (.reg .e) 4 s)

/-- `LD B, H` (R300). -/
def execLdBH (s : State) : Result := .next (loadReg .b (.reg .h) 4 s)

/-- `LD B, L` (R300). -/
def execLdBL (s : State) : Result := .next (loadReg .b (.reg .l) 4 s)

/-- `LD B, (HL)` (R302). -/
def execLdBAtHL (s : State) : Result := .next (loadReg .b .atHL 8 s)

/-- `LD B, A` (R300). -/
def execLdBA (s : State) : Result := .next (loadReg .b (.reg .a) 4 s)

/-- `LD C, B` (R300). -/
def execLdCB (s : State) : Result := .next (loadReg .c (.reg .b) 4 s)

/-- `LD C, C` (R300). -/
def execLdCC (s : State) : Result := .next (loadReg .c (.reg .c) 4 s)

/-- `LD C, D` (R300). -/
def execLdCD (s : State) : Result := .next (loadReg .c (.reg .d) 4 s)

/-- `LD C, E` (R300). -/
def execLdCE (s : State) : Result := .next (loadReg .c (.reg .e) 4 s)

/-- `LD C, H` (R300). -/
def execLdCH (s : State) : Result := .next (loadReg .c (.reg .h) 4 s)

/-- `LD C, L` (R300). -/
def execLdCL (s : State) : Result := .next (loadReg .c (.reg .l) 4 s)

/-- `LD C, (HL)` (R302). -/
def execLdCAtHL (s : State) : Result := .next (loadReg .c .atHL 8 s)

/-- `LD C, A` (R300). -/
def execLdCA (s : State) : Result := .next (loadReg .c (.reg .a) 4 s)

/-- `LD D, B` (R300). -/
def execLdDB (s : State) : Result := .next (loadReg .d (.reg .b) 4 s)

/-- `LD D, C` (R300). -/
def execLdDC (s : State) : Result := .next (loadReg .d (.reg .c) 4 s)

/-- `LD D, D` (R300). -/
def execLdDD (s : State) : Result := .next (loadReg .d (.reg .d) 4 s)

/-- `LD D, E` (R300). -/
def execLdDE (s : State) : Result := .next (loadReg .d (.reg .e) 4 s)

/-- `LD D, H` (R300). -/
def execLdDH (s : State) : Result := .next (loadReg .d (.reg .h) 4 s)

/-- `LD D, L` (R300). -/
def execLdDL (s : State) : Result := .next (loadReg .d (.reg .l) 4 s)

/-- `LD D, (HL)` (R302). -/
def execLdDAtHL (s : State) : Result := .next (loadReg .d .atHL 8 s)

/-- `LD D, A` (R300). -/
def execLdDA (s : State) : Result := .next (loadReg .d (.reg .a) 4 s)

/-- `LD E, B` (R300). -/
def execLdEB (s : State) : Result := .next (loadReg .e (.reg .b) 4 s)

/-- `LD E, C` (R300). -/
def execLdEC (s : State) : Result := .next (loadReg .e (.reg .c) 4 s)

/-- `LD E, D` (R300). -/
def execLdED (s : State) : Result := .next (loadReg .e (.reg .d) 4 s)

/-- `LD E, E` (R300). -/
def execLdEE (s : State) : Result := .next (loadReg .e (.reg .e) 4 s)

/-- `LD E, H` (R300). -/
def execLdEH (s : State) : Result := .next (loadReg .e (.reg .h) 4 s)

/-- `LD E, L` (R300). -/
def execLdEL (s : State) : Result := .next (loadReg .e (.reg .l) 4 s)

/-- `LD E, (HL)` (R302). -/
def execLdEAtHL (s : State) : Result := .next (loadReg .e .atHL 8 s)

/-- `LD E, A` (R300). -/
def execLdEA (s : State) : Result := .next (loadReg .e (.reg .a) 4 s)

/-- `LD H, B` (R300). -/
def execLdHB (s : State) : Result := .next (loadReg .h (.reg .b) 4 s)

/-- `LD H, C` (R300). -/
def execLdHC (s : State) : Result := .next (loadReg .h (.reg .c) 4 s)

/-- `LD H, D` (R300). -/
def execLdHD (s : State) : Result := .next (loadReg .h (.reg .d) 4 s)

/-- `LD H, E` (R300). -/
def execLdHE (s : State) : Result := .next (loadReg .h (.reg .e) 4 s)

/-- `LD H, H` (R300). -/
def execLdHH (s : State) : Result := .next (loadReg .h (.reg .h) 4 s)

/-- `LD H, L` (R300). -/
def execLdHL (s : State) : Result := .next (loadReg .h (.reg .l) 4 s)

/-- `LD H, (HL)` (R302). -/
def execLdHAtHL (s : State) : Result := .next (loadReg .h .atHL 8 s)

/-- `LD H, A` (R300). -/
def execLdHA (s : State) : Result := .next (loadReg .h (.reg .a) 4 s)

/-- `LD L, B` (R300). -/
def execLdLB (s : State) : Result := .next (loadReg .l (.reg .b) 4 s)

/-- `LD L, C` (R300). -/
def execLdLC (s : State) : Result := .next (loadReg .l (.reg .c) 4 s)

/-- `LD L, D` (R300). -/
def execLdLD (s : State) : Result := .next (loadReg .l (.reg .d) 4 s)

/-- `LD L, E` (R300). -/
def execLdLE (s : State) : Result := .next (loadReg .l (.reg .e) 4 s)

/-- `LD L, H` (R300). -/
def execLdLH (s : State) : Result := .next (loadReg .l (.reg .h) 4 s)

/-- `LD L, L` (R300). -/
def execLdLL (s : State) : Result := .next (loadReg .l (.reg .l) 4 s)

/-- `LD L, (HL)` (R302). -/
def execLdLAtHL (s : State) : Result := .next (loadReg .l .atHL 8 s)

/-- `LD L, A` (R300). -/
def execLdLA (s : State) : Result := .next (loadReg .l (.reg .a) 4 s)

/-- `LD (HL), B` (R303). -/
def execLdAtHLB (s : State) : Result := .next (storeHL (.reg .b) 8 s)

/-- `LD (HL), C` (R303). -/
def execLdAtHLC (s : State) : Result := .next (storeHL (.reg .c) 8 s)

/-- `LD (HL), D` (R303). -/
def execLdAtHLD (s : State) : Result := .next (storeHL (.reg .d) 8 s)

/-- `LD (HL), E` (R303). -/
def execLdAtHLE (s : State) : Result := .next (storeHL (.reg .e) 8 s)

/-- `LD (HL), H` (R303). -/
def execLdAtHLH (s : State) : Result := .next (storeHL (.reg .h) 8 s)

/-- `LD (HL), L` (R303). -/
def execLdAtHLL (s : State) : Result := .next (storeHL (.reg .l) 8 s)

/-- `LD (HL), A` (R303). -/
def execLdAtHLA (s : State) : Result := .next (storeHL (.reg .a) 8 s)

/-- `LD A, B` (R300). -/
def execLdAB (s : State) : Result := .next (loadReg .a (.reg .b) 4 s)

/-- `LD A, C` (R300). -/
def execLdAC (s : State) : Result := .next (loadReg .a (.reg .c) 4 s)

/-- `LD A, D` (R300). -/
def execLdAD (s : State) : Result := .next (loadReg .a (.reg .d) 4 s)

/-- `LD A, E` (R300). -/
def execLdAE (s : State) : Result := .next (loadReg .a (.reg .e) 4 s)

/-- `LD A, H` (R300). -/
def execLdAH (s : State) : Result := .next (loadReg .a (.reg .h) 4 s)

/-- `LD A, L` (R300). -/
def execLdAL (s : State) : Result := .next (loadReg .a (.reg .l) 4 s)

/-- `LD A, (HL)` (R302). -/
def execLdAAtHL (s : State) : Result := .next (loadReg .a .atHL 8 s)

/-- `LD A, A` (R300). -/
def execLdAA (s : State) : Result := .next (loadReg .a (.reg .a) 4 s)

/-- `LDH (a8), A` (R314). -/
def execLdhAtA8A (n : Byte) (s : State) : Result := .next (storeA (.high n) 12 s)

/-- `LDH (C), A` (R312). -/
def execLdhAtCA (s : State) : Result := .next (storeA .highC 8 s)

/-- `LD (a16), A` (R310). -/
def execLdAtA16A (t : Word) (s : State) : Result := .next (storeA (.abs t) 16 s)

/-- `LDH A, (a8)` (R313). -/
def execLdhAAtA8 (n : Byte) (s : State) : Result := .next (loadA (.high n) 12 s)

/-- `LDH A, (C)` (R311). -/
def execLdhAAtC (s : State) : Result := .next (loadA .highC 8 s)

/-- `LD A, (a16)` (R309). -/
def execLdAAtA16 (t : Word) (s : State) : Result := .next (loadA (.abs t) 16 s)

end Sys2Proof.Machine
end

