-- ==== Sys2Proof/Machine/Step.lean ====
section
/-! DEFINITION. One machine step, `Step()` (60_exceptions.md R610), and the host's way to place an instruction where the
next step fetches it. -/

namespace Sys2Proof.Machine

/-- One step: the recorded fault again, or a stopped, dispatching, halted or executing step (R610). -/
def step (s : State) : Host.Outcome State Fault Refusal :=
  let s := beginStep s
  match nextAction s with
  | .faulted op cb => .fault (.unknownInstruction op cb)
  | .stopped => .next (stoppedStep s)
  | .dispatch => .next (finishStep s.cpu.doubleSpeed (dispatchInterrupt s))
  | .halted => .next (finishStep s.cpu.doubleSpeed (haltedStep s))
  | .fetch =>
    match exec (fetchInstr s).1 (fetchInstr s).2 with
    | .next t => .next (finishStep s.cpu.doubleSpeed (finishInstr s.cpu.eiPending t))
    | .fault r => .fault r
    | .refused r => .refused r

/-- The state with the instruction of a table word placed where `step` fetches next (log 1, log 14, log 28). -/
def State.withFetchWord (s : State) (nbits w : Nat) : State := placeProgram s (tableBytes nbits w)

end Sys2Proof.Machine
end

