-- ==== Sys2Proof/Machine/HostApi.lean ====
section
/-! DEFINITION. What the host can do between steps (60_exceptions.md R615): the cartridge header and load
(20_memory.md R130-R133, 70_reset_and_hazards.md R800), SRAM, buttons, frames, save states. -/

namespace Sys2Proof.Machine

/-- Why an image is refused: `InvalidRom` (R133). -/
inductive LoadError where
  /-- Shorter than 0x150 bytes, a wrong header checksum, or a cart type of no variant. -/
  | invalidRom
  deriving DecidableEq, Repr

/-- A row of the cart-type table: variant, RAM, battery, RTC, rumble (R131). -/
structure CartType where
  kind : MbcKind
  ram : Bool
  battery : Bool
  rtc : Bool
  rumble : Bool
  deriving DecidableEq, Repr

/-- The cart-type codes of MBC0, MBC1 and MBC2 (R131); MBC2's RAM is built in. -/
def cartTypesLow : List (Nat × CartType) :=
  [(0x00, ⟨.mbc0, false, false, false, false⟩), (0x01, ⟨.mbc1, false, false, false, false⟩),
   (0x02, ⟨.mbc1, true, false, false, false⟩), (0x03, ⟨.mbc1, true, true, false, false⟩),
   (0x05, ⟨.mbc2, true, false, false, false⟩), (0x06, ⟨.mbc2, true, true, false, false⟩),
   (0x08, ⟨.mbc0, true, false, false, false⟩), (0x09, ⟨.mbc0, true, true, false, false⟩)]

/-- The cart-type codes of MBC3 and MBC5 (R131). -/
def cartTypesHigh : List (Nat × CartType) :=
  [(0x0F, ⟨.mbc3, false, true, true, false⟩), (0x10, ⟨.mbc3, true, true, true, false⟩),
   (0x11, ⟨.mbc3, false, false, false, false⟩), (0x12, ⟨.mbc3, true, false, false, false⟩),
   (0x13, ⟨.mbc3, true, true, false, false⟩), (0x19, ⟨.mbc5, false, false, false, false⟩),
   (0x1A, ⟨.mbc5, true, false, false, false⟩), (0x1B, ⟨.mbc5, true, true, false, false⟩),
   (0x1C, ⟨.mbc5, false, false, false, true⟩), (0x1D, ⟨.mbc5, true, false, false, true⟩),
   (0x1E, ⟨.mbc5, true, true, false, true⟩)]

/-- The table of R131; none for an unrecognized code. -/
def cartType (code : Byte) : Option CartType := (cartTypesLow ++ cartTypesHigh).lookup code.toNat

/-- The least power of two not below `n`, reached in at most `fuel` doublings of `k`. -/
def powerAtLeast : Nat → Nat → Nat → Nat
  | 0, k, _ => k
  | fuel + 1, k, n => if n ≤ k then k else powerAtLeast fuel (2 * k) n

/-- The ROM bank count from the size code, or from the image's length for a code above 0x08 (R131, D18). -/
def romBankCount (code : Byte) (len : Nat) : Nat :=
  if code.toNat ≤ 0x08 then 2 * 2 ^ code.toNat
  else powerAtLeast len 2 ((len + 0x3FFF) / 0x4000)

/-- The external RAM size of a RAM size code, in bytes (R131). -/
def ramSizeOf (code : Byte) : Nat :=
  match code.toNat with
  | 1 => 0x800
  | 2 => 0x2000
  | 3 => 0x8000
  | 4 => 0x20000
  | 5 => 0x10000
  | _ => 0

/-- Header byte `a` of an image. -/
def headerByte (img : List Byte) (a : Nat) : Byte := img.getD a 0xFF

/-- The header checksum over 0x0134-0x014C (R132). -/
def headerChecksum (img : List Byte) : Byte :=
  (List.range 25).foldl (fun x k => x - headerByte img (0x0134 + k) - 1) 0

/-- The cartridge configuration a valid header gives (R130, R131). -/
def cartOf (img : List Byte) (t : CartType) : Cart where
  kind := t.kind
  romBanks := romBankCount (headerByte img 0x0148) img.length
  ramSize := if t.kind = .mbc2 then 512 else if t.ram then ramSizeOf (headerByte img 0x0149) else 0
  hasRam := t.ram
  battery := t.battery
  rtc := t.rtc
  rumble := t.rumble
  cgbFlag := (headerByte img 0x0143).getLsbD 7

/-- `get_rom_info(bytes)` (R133): the checks, with no effect on the state. -/
def romInfo (img : List Byte) : Except LoadError Cart :=
  if img.length < 0x150 ∨ headerChecksum img ≠ headerByte img 0x014D then .error .invalidRom
  else
    match cartType (headerByte img 0x0147) with
    | some t => .ok (cartOf img t)
    | none => .error .invalidRom

/-- `load_rom(bytes)` (R133, R800): a valid image installs ROM and CART and resets; else the state is kept. -/
def loadRom (s : State) (img : List Byte) : Except LoadError State :=
  match romInfo img with
  | .ok c => .ok (State.resetWith s.params c (storeOfList Region.rom.blank 0 img))
  | .error e => .error e

/-- Why a saved RAM image is refused (R615). -/
inductive SramError where
  /-- The size is not the cartridge's RAM size; RAM is left unchanged (R40). -/
  | sramSizeMismatch
  deriving DecidableEq, Repr

/-- `set_sram(buffer)` (R615, R40); an MBC2 cell keeps 4 bits (R152, log 27). -/
def setSram (s : State) (buf : List Byte) : Except SramError State :=
  if buf.length = s.cart.ramSize then
    let cells := if s.cart.kind = .mbc2 then buf.map (fun v => v &&& 0x0F) else buf
    .ok { s with mem := withCells s.mem .cartRam (storeOfList Region.cartRam.blank 0 cells) }
  else .error .sramSizeMismatch

/-- The eight buttons (R6). -/
inductive Button where
  | right
  | left
  | up
  | down
  | a
  | b
  | select
  | start
  deriving DecidableEq, Repr

/-- One button changed. -/
def pressButton (j : Buttons) (k : Button) (pressed : Bool) : Buttons :=
  match k with
  | .right => { j with right := pressed }
  | .left => { j with left := pressed }
  | .up => { j with up := pressed }
  | .down => { j with down := pressed }
  | .a => { j with btnA := pressed }
  | .b => { j with btnB := pressed }
  | .select => { j with select := pressed }
  | .start => { j with start := pressed }

/-- `set_buttons(button, pressed)`, then the joypad check (R615, R630). -/
def setButton (s : State) (k : Button) (pressed : Bool) : State :=
  joypadCheck { s with joypad := { s.joypad with buttons := pressButton s.joypad.buttons k pressed } }

/-- `skip_next_frame()` (R655). -/
def skipNextFrame (s : State) : State := { s with ppu := { s.ppu with skipPending := true } }

/-- What `run_step()` reports: the T-cycles consumed, the fault, or a refusal (R610). -/
inductive StepReport where
  | cycles (t : Nat)
  | fault (r : Fault)
  | refused (r : Refusal)
  deriving DecidableEq, Repr

/-- `run_step()`: one step, with the state the host holds after it; a fault is recorded in it (R600, log 12). -/
def runStep (s : State) : StepReport × State :=
  match step s with
  | .next t => (.cycles t.cost, t)
  | .fault (.unknownInstruction op cb) => (.fault (.unknownInstruction op cb), recordFault s op cb)
  | .refused r => (.refused r, s)

/-- `run_frame()` with a step budget: until a step has called the vblank callback or stopped (R615, R659, log 26). -/
def runFrame : Nat → State → State
  | 0, s => s
  | n + 1, s =>
    match runStep s with
    | (.cycles _, t) => if Callback.vblank ∈ t.callbacks then t else runFrame n t
    | (_, t) => t

/-- Why a saved state is refused (R805, H5). -/
inductive SaveError where
  /-- `InvalidSaveState`: it is not of this ROM, cartridge and parameters (log 25). -/
  | invalidSaveState
  deriving DecidableEq, Repr

/-- `save_state()`: a copy of the whole state (R805). -/
def saveState (s : State) : State := s

/-- `load_state(s)`: it replaces the whole state, or changes nothing (R805, log 25). -/
def loadState (s saved : State) : Except SaveError State :=
  if saved.cart = s.cart ∧ saved.params = s.params ∧ saved.mem.rom = s.mem.rom then .ok saved
  else .error .invalidSaveState

end Sys2Proof.Machine
end

