-- ==== Sys2Proof/Safety.lean ====
section
/-! DEFINITION. What counts as a well-formed state and a safe run, and the terms claims are stated in: the pieces of the
machine's invariant, the frames of instructions and stores, and the operand forms of the instruction set. -/

namespace Sys2Proof.Machine

/-- The step at `s` goes on. -/
def Runs (s : State) : Prop := ∃ t, step s = .next t

/-- No fault is recorded (R600): the machine has not stopped. -/
def Alive (s : State) : Prop := s.cpu.fault = none

/-- Every memory is in canonical form, and so is the framebuffer. -/
def MemOk (s : State) : Prop := s.mem.wf = true ∧ storeWf blankRow s.ppu.frame = true

/-- The mode a line and dot give while the LCD is on (the table of R640). -/
def modeAt (ly dot : Nat) : PpuMode :=
  if 144 ≤ ly then .vblank else if dot < 80 then .oamScan else if dot < 252 then .pixelTransfer else .hblank

/-- The PPU's position: in range, and the mode is the one R640 gives it; with the LCD off it is parked (R647). -/
def PpuOk (s : State) : Prop :=
  s.ppu.ly < 154 ∧ s.ppu.dot < 456
    ∧ (lcdOn s = true → s.ppu.mode = modeAt s.ppu.ly s.ppu.dot)
    ∧ (lcdOn s = false → s.ppu.ly = 0 ∧ s.ppu.dot = 0 ∧ s.ppu.mode = .hblank)

/-- The recorded lines are the lines: the timer's clock signal (R621), the STAT line (R656), the P1 lines (R630). -/
def LinesOk (s : State) : Prop :=
  s.timer.signal = timerClock s.timer ∧ s.ppu.statLine = statCondition s.ppu ∧ s.joypad.lines = p1Lines s.joypad

/-- The bank registers that treat 0 as 1 never hold 0 (R145, R150, R155). -/
def BanksOk (s : State) : Prop :=
  match s.mbc with
  | .mbc0 => True
  | .mbc1 r => r.bank1 ≠ 0
  | .mbc2 r => r.romBank ≠ 0
  | .mbc3 r => r.romBank ≠ 0
  | .mbc5 _ => True

/-- What the cartridge and the parameters fix for good (R806). -/
def SameMachine (s t : State) : Prop := t.params = s.params ∧ t.cart = s.cart ∧ t.mem.rom = s.mem.rom

/-- Nothing outside the CPU differs: every memory, every IO and device register, the MBC and the host's view. -/
structure SameWorld (s t : State) : Prop where
  params : t.params = s.params
  cart : t.cart = s.cart
  mem : t.mem = s.mem
  irq : t.irq = s.irq
  mbc : t.mbc = s.mbc
  rtc : t.rtc = s.rtc
  timer : t.timer = s.timer
  serial : t.serial = s.serial
  joypad : t.joypad = s.joypad
  sel : t.sel = s.sel
  hdma : t.hdma = s.hdma
  ppu : t.ppu = s.ppu
  apu : t.apu = s.apu
  freeCount : t.freeCount = s.freeCount
  callbacks : t.callbacks = s.callbacks

/-- The hidden CPU bits and the cycle count do not differ (R36). -/
structure SameHidden (s t : State) : Prop where
  ime : t.cpu.ime = s.cpu.ime
  eiPending : t.cpu.eiPending = s.cpu.eiPending
  halted : t.cpu.halted = s.cpu.halted
  haltBug : t.cpu.haltBug = s.cpu.haltBug
  stopped : t.cpu.stopped = s.cpu.stopped
  doubleSpeed : t.cpu.doubleSpeed = s.cpu.doubleSpeed
  fault : t.cpu.fault = s.cpu.fault
  cycleCount : t.cpu.cycleCount = s.cpu.cycleCount

/-- The 8-bit registers but those named do not differ. -/
def OtherRegs (s t : State) (written : List Reg8) : Prop := ∀ q, q ∉ written → readReg t q = readReg s q

/-- Every address reads as before. -/
def SameReads (s t : State) : Prop := ∀ a, memRead t a = memRead s a

/-- The frame of an instruction that writes CPU registers only: the rest of the state is as it was, every address reads
as before, and the cost is spent. -/
structure Quiet (s t : State) (cost : Nat) : Prop where
  world : SameWorld s t
  hidden : SameHidden s t
  reads : SameReads s t
  cost : t.cost = s.cost + cost

/-- The byte of memory an address stands for, where it stands for one: VRAM, WRAM, OAM, HRAM or enabled cartridge RAM;
an echo address stands for the byte it mirrors. -/
def cellOf (s : State) (a : Word) : Option (Region × Nat) :=
  match route s a with
  | .cell r i => some (r, i)
  | .ext n =>
    match extTarget s n with
    | .ram i => some (.cartRam, i)
    | _ => none
  | _ => none

/-- The frame of one byte stored at `a`, for every address that stands for a byte of memory and is not locked out: the
byte reads back, and every address that stands for another byte, or for none, reads as before. -/
def StoreFrame (s t : State) (a : Word) (v : Byte) : Prop :=
  ∀ c, cellOf s a = some c → lockedOut s a = false →
    memRead t a = v ∧ ∀ b, cellOf s b ≠ some c → memRead t b = memRead s b

/-- The frame of two bytes stored at `a1` and `a2`, in the same sense. -/
def StoreFrame2 (s t : State) (a1 : Word) (v1 : Byte) (a2 : Word) (v2 : Byte) : Prop :=
  ∀ c1 c2, cellOf s a1 = some c1 → cellOf s a2 = some c2 → c1 ≠ c2 → lockedOut s a1 = false → lockedOut s a2 = false →
    memRead t a1 = v1 ∧ memRead t a2 = v2
      ∧ ∀ b, cellOf s b ≠ some c1 → cellOf s b ≠ some c2 → memRead t b = memRead s b

/-- The whole effect of an instruction that stores `v` at `a` and writes no CPU register: what `MemWrite` does there,
the frame of the store, and the cost. -/
structure Stored (s t : State) (a : Word) (v : Byte) (cost : Nat) : Prop where
  cpu : t.cpu = s.cpu
  world : SameWorld (memWrite s a v) t
  frame : StoreFrame s t a v
  cost : t.cost = (memWrite s a v).cost + cost

/-- The effect of an instruction that writes the byte `v` to a place and may write the flags. -/
def PlaceGets (s t : State) (p : Place) (v : Byte) (cost : Nat) : Prop :=
  t.cpu.sp = s.cpu.sp ∧ t.cpu.pc = s.cpu.pc ∧ SameHidden s t
    ∧ match p with
      | .reg r =>
        readReg t r = v ∧ OtherRegs s t [r] ∧ SameWorld s t ∧ SameReads s t ∧ t.cost = s.cost + cost
      | .atHL =>
        OtherRegs s t [] ∧ SameWorld (memWrite s (readPair s .hl) v) t ∧ StoreFrame s t (readPair s .hl) v
          ∧ t.cost = (memWrite s (readPair s .hl) v).cost + cost

/-- The effect of a control transfer to `target` that touches no stack. -/
structure Jumped (s t : State) (target : Word) (cost : Nat) : Prop where
  cpu : t.cpu = { s.cpu with pc := target }
  world : SameWorld s t
  reads : SameReads s t
  cost : t.cost = s.cost + cost

/-- The effect of pushing `v` and going to `target`. -/
structure Called (s t : State) (v target : Word) (cost : Nat) : Prop where
  cpu : t.cpu = { s.cpu with sp := s.cpu.sp - 2, pc := target }
  world : SameWorld (push16 s v) t
  frame : StoreFrame2 s t (s.cpu.sp - 1) (hiByte v) (s.cpu.sp - 2) (loByte v)
  cost : t.cost = (push16 s v).cost + cost

/-- `LD r, operand` in its three operand forms (R300-R302). -/
def loadForm (dst : Reg8) (o : Source) : Instr :=
  match o with
  | .reg r => Instr.ldReg dst r
  | .atHL => Instr.ldFromHL dst
  | .imm n => Instr.ldImm dst n

/-- An 8-bit ALU instruction in its three operand forms (R345). -/
def aluForm (op : AluOp) (o : Source) : Instr :=
  match o with
  | .reg r => Instr.aluReg op r
  | .atHL => Instr.aluHL op
  | .imm n => Instr.aluImm op n

/-- The cost of a load or ALU operand form: 4 T-cycles for a register, 8 for memory or an immediate. -/
def sourceCost (o : Source) : Nat :=
  match o with
  | .reg _ => 4
  | .atHL => 8
  | .imm _ => 8

/-- INC on a register or the byte at HL (R374, R375). -/
def incForm (p : Place) : Instr :=
  match p with
  | .reg r => Instr.incReg r
  | .atHL => .incAtHL

/-- DEC on a register or the byte at HL (R376, R377). -/
def decForm (p : Place) : Instr :=
  match p with
  | .reg r => Instr.decReg r
  | .atHL => .decAtHL

/-- A prefixed rotate or shift on a register or the byte at HL (R404-R419). -/
def rotForm (op : RotOp) (p : Place) : Instr :=
  match p with
  | .reg r => Instr.rotReg op r
  | .atHL => Instr.rotHL op

/-- `BIT b` (R420, R421). -/
def bitForm (b : Fin 8) (p : Place) : Instr :=
  match p with
  | .reg r => Instr.bitReg b r
  | .atHL => Instr.bitHL b

/-- `RES b` (R422, R423). -/
def resForm (b : Fin 8) (p : Place) : Instr :=
  match p with
  | .reg r => Instr.resReg b r
  | .atHL => Instr.resHL b

/-- `SET b` (R424, R425). -/
def setForm (b : Fin 8) (p : Place) : Instr :=
  match p with
  | .reg r => Instr.setReg b r
  | .atHL => Instr.setHL b

/-- A cost that depends on whether the place is a register or memory. -/
def placeCost (p : Place) (reg mem : Nat) : Nat :=
  match p with
  | .reg _ => reg
  | .atHL => mem

/-- The result of a rotate, shift or SWAP as a number: v below 256, the carry as 0 or 1 (R404-R419). -/
def rotNumber (op : RotOp) (v c : Nat) : Nat :=
  match op with
  | .rlc => 2 * v % 256 + v / 128
  | .rrc => v / 2 + 128 * (v % 2)
  | .rl => 2 * v % 256 + c
  | .rr => v / 2 + 128 * c
  | .sla => 2 * v % 256
  | .sra => v / 2 + 128 * (v / 128)
  | .swap => 16 * (v % 16) + v / 16
  | .srl => v / 2

/-- The bit a rotate or shift moves out, as a number (R404-R419). -/
def rotOutBit (op : RotOp) (v : Nat) : Nat :=
  match op with
  | .rlc => v / 128
  | .rl => v / 128
  | .sla => v / 128
  | .rrc => v % 2
  | .rr => v % 2
  | .sra => v % 2
  | .srl => v % 2
  | .swap => 0

/-- The 3-bit register field (R202). -/
def regCode (r : Reg8) : Nat :=
  match r with
  | .b => 0
  | .c => 1
  | .d => 2
  | .e => 3
  | .h => 4
  | .l => 5
  | .a => 7

/-- The 3-bit register field of a place; 6 is the byte at HL (R202). -/
def placeCode (p : Place) : Nat :=
  match p with
  | .reg r => regCode r
  | .atHL => 6

/-- The 2-bit pair field of table rp (R203). -/
def pairCode (p : Pair) : Nat :=
  match p with
  | .bc => 0
  | .de => 1
  | .hl => 2
  | .sp => 3

/-- The 2-bit pair field of table rp2 (R203). -/
def stackCode (p : StackPair) : Nat :=
  match p with
  | .bc => 0
  | .de => 1
  | .hl => 2
  | .af => 3

/-- The 2-bit condition field (R204). -/
def condCode (cc : Cond) : Nat :=
  match cc with
  | .nz => 0
  | .z => 1
  | .nc => 2
  | .c => 3

/-- The 3-bit ALU operation field (R205). -/
def aluCode (op : AluOp) : Nat :=
  match op with
  | .add => 0
  | .adc => 1
  | .sub => 2
  | .sbc => 3
  | .and => 4
  | .xor => 5
  | .or => 6
  | .cp => 7

/-- The 3-bit rotate field of the CB map (R205). -/
def rotCode (op : RotOp) : Nat :=
  match op with
  | .rlc => 0
  | .rrc => 1
  | .rl => 2
  | .rr => 3
  | .sla => 4
  | .sra => 5
  | .swap => 6
  | .srl => 7

/-- The bytes of an ALU instruction: `10 ooo rrr`, or `11 ooo 110` and the immediate (R345). -/
def aluBytes (op : AluOp) (o : Source) : List Byte :=
  match o with
  | .reg r => [BitVec.ofNat 8 (0x80 + 8 * aluCode op + regCode r)]
  | .atHL => [BitVec.ofNat 8 (0x80 + 8 * aluCode op + 6)]
  | .imm n => [BitVec.ofNat 8 (0xC6 + 8 * aluCode op), n]

/-- The bytes of a CB instruction of group x with field y on a place (R396). -/
def cbBytes (x y : Nat) (p : Place) : List Byte := [0xCB, BitVec.ofNat 8 (64 * x + 8 * y + placeCode p)]

/-- The dots since the start of the frame (R640). -/
def framePosition (s : State) : Nat := s.ppu.ly * 456 + s.ppu.dot

end Sys2Proof.Machine
end

