-- ==== Sys2Proof/Certificates/Slice0/Obligations.lean ====
section
/-! DEFINITION. The statements for the provers, from the numbered rules of spec/: encoding, the effect and frame of every
instruction that has a meaning, the step, the invariants, reset, memory and the devices. -/

open Sys2Proof Sys2Proof.Machine

/-! Encoding. -/

/-- O1. Words written out from the opcode maps R208 and R209 decode to the instructions they stand for, and a lone
prefix is no instruction (R211). -/
def Obligations.DecodeKnownWords : Prop :=
  decode [0x41] = .ok (.ldBC, [])
    ∧ decode [0x3E, 0x7E] = .ok (.ldAd8 0x7E, [])
    ∧ decode [0x08, 0x00, 0xC1] = .ok (.ldAtA16SP 0xC100, [])
    ∧ decode [0xF5] = .ok (.pushAF, [])
    ∧ decode [0x8E] = .ok (.adcAAtHL, [])
    ∧ decode [0xE8, 0xFE] = .ok (.addSPe8 0xFE, [])
    ∧ decode [0xCB, 0x37] = .ok (.swapA, [])
    ∧ decode [0xCB, 0xFE] = .ok (.set7AtHL, [])
    ∧ decode [0xDC, 0x34, 0x12] = .ok (.callC 0x1234, [])
    ∧ decode [0x76, 0x3C] = .ok (.halt, [0x3C])
    ∧ decode [0x10, 0x00] = .ok (.stop 0x00, [])
    ∧ decode [0xD3] = .ok (.illegalD3, [])
    ∧ decode [0xCB] = .error (.truncated 2)

/-- O2. Decoding the encoding of any complete instruction gives that instruction back, every operand at every value
(R200-R211). -/
def Obligations.DecodeEncodeAll : Prop :=
  ∀ i : Instr, WellFormed i → ∀ rest : List Byte, decode (encode i ++ rest) = .ok (i, rest)

/-! 8-bit loads. -/

/-- O3. `LD r, r'`, `LD r, (HL)` and `LD r, d8` (R300-R302): r gets the operand, and nothing else changes. -/
def Obligations.LoadRegister : Prop :=
  ∀ (dst : Reg8) (o : Source) (s : State),
    encode (loadForm dst o) =
        (match o with
        | .reg r => [BitVec.ofNat 8 (0x40 + 8 * regCode dst + regCode r)]
        | .atHL => [BitVec.ofNat 8 (0x46 + 8 * regCode dst)]
        | .imm n => [BitVec.ofNat 8 (0x06 + 8 * regCode dst), n])
      ∧ ∃ t, exec (loadForm dst o) s = .next t
        ∧ readReg t dst =
            (match o with
            | .reg r => readReg s r
            | .atHL => memRead s (readPair s .hl)
            | .imm n => n)
        ∧ OtherRegs s t [dst] ∧ t.cpu.flags = s.cpu.flags ∧ t.cpu.sp = s.cpu.sp ∧ t.cpu.pc = s.cpu.pc
        ∧ Quiet s t (sourceCost o)

/-- O4. `LD (HL), r` and `LD (HL), d8` (R303, R304): the operand is stored at HL, and no register changes. -/
def Obligations.StoreAtHL : Prop :=
  (∀ (r : Reg8) (s : State),
      encode (Instr.ldToHL r) = [BitVec.ofNat 8 (0x70 + regCode r)]
        ∧ ∃ t, exec (Instr.ldToHL r) s = .next t ∧ Stored s t (readPair s .hl) (readReg s r) 8)
    ∧ ∀ (n : Byte) (s : State),
      encode (.ldAtHLd8 n) = [0x36, n]
        ∧ ∃ t, exec (.ldAtHLd8 n) s = .next t ∧ Stored s t (readPair s .hl) n 12

/-- O5. The loads of A from (BC), (DE), (a16), (C) and (a8) (R305, R306, R309, R311, R313). -/
def Obligations.LoadAccumulator : Prop :=
  ∀ (s : State) (i : Instr) (bs : List Byte) (a : Word) (cost : Nat),
    ((i = .ldAAtBC ∧ bs = [0x0A] ∧ a = readPair s .bc ∧ cost = 8)
      ∨ (i = .ldAAtDE ∧ bs = [0x1A] ∧ a = readPair s .de ∧ cost = 8)
      ∨ (i = .ldAAtA16 a ∧ bs = [0xFA, loByte a, hiByte a] ∧ cost = 16)
      ∨ (i = .ldhAAtC ∧ bs = [0xF2] ∧ a = 0xFF00 + s.cpu.c.setWidth 16 ∧ cost = 8)
      ∨ ∃ n : Byte, i = .ldhAAtA8 n ∧ bs = [0xF0, n] ∧ a = 0xFF00 + n.setWidth 16 ∧ cost = 12) →
    encode i = bs
      ∧ ∃ t, exec i s = .next t ∧ t.cpu.a = memRead s a ∧ OtherRegs s t [.a] ∧ t.cpu.flags = s.cpu.flags
        ∧ t.cpu.sp = s.cpu.sp ∧ t.cpu.pc = s.cpu.pc ∧ Quiet s t cost

/-- O6. The stores of A at (BC), (DE), (a16), (C) and (a8) (R307, R308, R310, R312, R314). -/
def Obligations.StoreAccumulator : Prop :=
  ∀ (s : State) (i : Instr) (bs : List Byte) (a : Word) (cost : Nat),
    ((i = .ldAtBCA ∧ bs = [0x02] ∧ a = readPair s .bc ∧ cost = 8)
      ∨ (i = .ldAtDEA ∧ bs = [0x12] ∧ a = readPair s .de ∧ cost = 8)
      ∨ (i = .ldAtA16A a ∧ bs = [0xEA, loByte a, hiByte a] ∧ cost = 16)
      ∨ (i = .ldhAtCA ∧ bs = [0xE2] ∧ a = 0xFF00 + s.cpu.c.setWidth 16 ∧ cost = 8)
      ∨ ∃ n : Byte, i = .ldhAtA8A n ∧ bs = [0xE0, n] ∧ a = 0xFF00 + n.setWidth 16 ∧ cost = 12) →
    encode i = bs ∧ ∃ t, exec i s = .next t ∧ Stored s t a s.cpu.a cost

/-- O7. `LD A, (HL+)`, `LD A, (HL-)`, `LD (HL+), A` and `LD (HL-), A` (R315-R318): the access is at HL, then HL moves
by one. -/
def Obligations.AccumulatorStep : Prop :=
  ∀ (s : State) (up : Bool),
    let hl := readPair s .hl
    let hl' := if up then hl + 1 else hl - 1
    (encode (if up then .ldAAtHLInc else .ldAAtHLDec) = [if up then 0x2A else 0x3A]
        ∧ ∃ t, exec (if up then .ldAAtHLInc else .ldAAtHLDec) s = .next t
          ∧ t.cpu.a = memRead s hl ∧ readPair t .hl = hl' ∧ OtherRegs s t [.a, .h, .l]
          ∧ t.cpu.flags = s.cpu.flags ∧ t.cpu.sp = s.cpu.sp ∧ t.cpu.pc = s.cpu.pc ∧ Quiet s t 8)
      ∧ encode (if up then .ldAtHLIncA else .ldAtHLDecA) = [if up then 0x22 else 0x32]
      ∧ ∃ t, exec (if up then .ldAtHLIncA else .ldAtHLDecA) s = .next t
        ∧ SameWorld (memWrite s hl s.cpu.a) t ∧ StoreFrame s t hl s.cpu.a
        ∧ t.cost = (memWrite s hl s.cpu.a).cost + 8
        ∧ readPair t .hl = hl' ∧ OtherRegs s t [.h, .l] ∧ SameHidden s t
        ∧ t.cpu.flags = s.cpu.flags ∧ t.cpu.sp = s.cpu.sp ∧ t.cpu.pc = s.cpu.pc

/-! 16-bit loads and the stack. -/

/-- O8. `LD rr, d16` and `LD SP, HL` (R330, R332): one pair is written, and nothing else changes. -/
def Obligations.LoadPair : Prop :=
  ∀ s : State,
    (∀ (p : Pair) (v : Word),
        encode (Instr.ldPairImm p v) = [BitVec.ofNat 8 (0x01 + 16 * pairCode p), loByte v, hiByte v]
          ∧ ∃ t, exec (Instr.ldPairImm p v) s = .next t
            ∧ readPair t p = v ∧ (∀ q, q ≠ p → readPair t q = readPair s q) ∧ t.cpu.a = s.cpu.a
            ∧ t.cpu.flags = s.cpu.flags ∧ t.cpu.pc = s.cpu.pc ∧ Quiet s t 12)
      ∧ encode .ldSPHL = [0xF9]
      ∧ ∃ t, exec .ldSPHL s = .next t
        ∧ t.cpu.sp = readPair s .hl ∧ OtherRegs s t [] ∧ t.cpu.flags = s.cpu.flags ∧ t.cpu.pc = s.cpu.pc
        ∧ Quiet s t 8

/-- O9. `LD (a16), SP` (R331): the low byte of SP at a16, then the high byte at a16 + 1. -/
def Obligations.StoreStackPointer : Prop :=
  ∀ (s : State) (a : Word),
    encode (.ldAtA16SP a) = [0x08, loByte a, hiByte a]
      ∧ ∃ t, exec (.ldAtA16SP a) s = .next t ∧ t.cpu = s.cpu
        ∧ SameWorld (memWrite (memWrite s a (loByte s.cpu.sp)) (a + 1) (hiByte s.cpu.sp)) t
        ∧ StoreFrame2 s t a (loByte s.cpu.sp) (a + 1) (hiByte s.cpu.sp)
        ∧ t.cost = (memWrite (memWrite s a (loByte s.cpu.sp)) (a + 1) (hiByte s.cpu.sp)).cost + 20

/-- O10. `LD HL, SP+e8` (R333): HL gets SP plus the signed offset; H and C are the carries of the unsigned addition of
the offset byte to the low byte of SP, and Z and N are cleared. -/
def Obligations.LoadHLOffset : Prop :=
  ∀ (s : State) (e : Byte),
    encode (.ldHLSPe8 e) = [0xF8, e]
      ∧ ∃ t, exec (.ldHLSPe8 e) s = .next t
        ∧ (readPair t .hl).toInt = (s.cpu.sp.toInt + e.toInt).bmod 65536
        ∧ t.cpu.flags.z = false ∧ t.cpu.flags.n = false
        ∧ (t.cpu.flags.h = true ↔ 15 < s.cpu.sp.toNat % 16 + e.toNat % 16)
        ∧ (t.cpu.flags.c = true ↔ 255 < s.cpu.sp.toNat % 256 + e.toNat)
        ∧ OtherRegs s t [.h, .l] ∧ t.cpu.sp = s.cpu.sp ∧ t.cpu.pc = s.cpu.pc ∧ Quiet s t 12

/-- O11. PUSH (R334, R336): the high byte at SP-1, the low byte at SP-2, SP moves down by two; PUSH AF pushes F with
bits 3:0 zero. -/
def Obligations.PushPair : Prop :=
  ∀ (s : State) (p : StackPair),
    encode (Instr.push p) = [BitVec.ofNat 8 (0xC5 + 16 * stackCode p)]
      ∧ (p = .af → loByte (readStackPair s p) &&& 0x0F = 0)
      ∧ ∃ t, exec (Instr.push p) s = .next t ∧ Called s t (readStackPair s p) s.cpu.pc 16

/-- O12. POP (R337, R338): the low byte is at SP, the high byte at SP+1, SP moves up by two; POP AF drops bits 3:0 of
the popped low byte. -/
def Obligations.PopPair : Prop :=
  ∀ (s : State) (p : StackPair),
    let v := joinBytes (memRead s (s.cpu.sp + 1)) (memRead s s.cpu.sp)
    encode (Instr.pop p) = [BitVec.ofNat 8 (0xC1 + 16 * stackCode p)]
      ∧ ∃ t, exec (Instr.pop p) s = .next t
        ∧ readStackPair t p = (if p = .af then v &&& 0xFFF0 else v)
        ∧ (∀ q, q ≠ p → readStackPair t q = readStackPair s q) ∧ (p ≠ .af → t.cpu.flags = s.cpu.flags)
        ∧ t.cpu.sp = s.cpu.sp + 2 ∧ t.cpu.pc = s.cpu.pc ∧ Quiet s t 12

/-! 8-bit arithmetic and logic. -/

/-- O13. ADD and ADC in their three operand forms (R346, R350-R355): A and the flags from the exact sum with the carry
that ADC adds. -/
def Obligations.AddWithCarry : Prop :=
  ∀ (s : State) (useCarry : Bool) (o : Source),
    let op : AluOp := if useCarry then .adc else .add
    let c := bitNat (useCarry && s.cpu.flags.c)
    let a := s.cpu.a.toNat
    let v := (sourceByte s o).toNat
    encode (aluForm op o) = aluBytes op o
      ∧ ∃ t, exec (aluForm op o) s = .next t
        ∧ t.cpu.a.toNat = (a + v + c) % 256
        ∧ (t.cpu.flags.z = true ↔ (a + v + c) % 256 = 0) ∧ t.cpu.flags.n = false
        ∧ (t.cpu.flags.h = true ↔ 15 < a % 16 + v % 16 + c) ∧ (t.cpu.flags.c = true ↔ 255 < a + v + c)
        ∧ OtherRegs s t [.a] ∧ t.cpu.sp = s.cpu.sp ∧ t.cpu.pc = s.cpu.pc ∧ Quiet s t (sourceCost o)

/-- O14. SUB, SBC and CP in their three operand forms (R347, R356-R361, R371-R373): borrows set H and C, N is set, and
CP leaves A as it was. -/
def Obligations.SubtractCompare : Prop :=
  ∀ (s : State) (op : AluOp) (o : Source), op = .sub ∨ op = .sbc ∨ op = .cp →
    let c := bitNat (decide (op = .sbc) && s.cpu.flags.c)
    let a := s.cpu.a.toNat
    let v := (sourceByte s o).toNat
    encode (aluForm op o) = aluBytes op o
      ∧ ∃ t, exec (aluForm op o) s = .next t
        ∧ t.cpu.a.toNat = (if op = .cp then a else (a + 512 - v - c) % 256)
        ∧ (t.cpu.flags.z = true ↔ (a + 512 - v - c) % 256 = 0) ∧ t.cpu.flags.n = true
        ∧ (t.cpu.flags.h = true ↔ a % 16 < v % 16 + c) ∧ (t.cpu.flags.c = true ↔ a < v + c)
        ∧ OtherRegs s t [.a] ∧ t.cpu.sp = s.cpu.sp ∧ t.cpu.pc = s.cpu.pc ∧ Quiet s t (sourceCost o)

/-- O15. AND, XOR and OR in their three operand forms (R348, R362-R370): bit by bit; H is set by AND alone. -/
def Obligations.LogicOperations : Prop :=
  ∀ (s : State) (op : AluOp) (o : Source), op = .and ∨ op = .xor ∨ op = .or →
    encode (aluForm op o) = aluBytes op o
      ∧ ∃ t, exec (aluForm op o) s = .next t
        ∧ (∀ k, k < 8 → t.cpu.a.getLsbD k =
            (match op with
            | .and => s.cpu.a.getLsbD k && (sourceByte s o).getLsbD k
            | .xor => s.cpu.a.getLsbD k != (sourceByte s o).getLsbD k
            | _ => s.cpu.a.getLsbD k || (sourceByte s o).getLsbD k))
        ∧ (t.cpu.flags.z = true ↔ t.cpu.a = 0) ∧ t.cpu.flags.n = false ∧ t.cpu.flags.h = decide (op = .and)
        ∧ t.cpu.flags.c = false
        ∧ OtherRegs s t [.a] ∧ t.cpu.sp = s.cpu.sp ∧ t.cpu.pc = s.cpu.pc ∧ Quiet s t (sourceCost o)

/-- O16. INC and DEC on a register and on the byte at HL (R374-R377): C is not written. -/
def Obligations.IncrementDecrement : Prop :=
  ∀ (s : State) (p : Place) (up : Bool),
    let v := placeByte s p
    let i := if up then incForm p else decForm p
    encode i = [BitVec.ofNat 8 ((if up then 0x04 else 0x05) + 8 * placeCode p)]
      ∧ ∃ t w, exec i s = .next t ∧ PlaceGets s t p w (placeCost p 4 12)
        ∧ w.toNat = (if up then v.toNat + 1 else v.toNat + 255) % 256
        ∧ (t.cpu.flags.z = true ↔ w = 0) ∧ t.cpu.flags.n = !up
        ∧ (t.cpu.flags.h = true ↔ v.toNat % 16 = (if up then 15 else 0)) ∧ t.cpu.flags.c = s.cpu.flags.c

/-- O17. DAA (R378), for every value of A, N, H and C. -/
def Obligations.DecimalAdjust : Prop :=
  ∀ s : State,
    let a := s.cpu.a.toNat
    let f := s.cpu.flags
    let hi := f.c = true ∨ (f.n = false ∧ 0x99 < a)
    let lo := f.h = true ∨ (f.n = false ∧ 9 < a % 16)
    encode .daa = [0x27]
      ∧ ∃ t, exec .daa s = .next t
        ∧ (f.n = false → (hi → lo → t.cpu.a.toNat = (a + 0x66) % 256) ∧ (hi → ¬lo → t.cpu.a.toNat = (a + 0x60) % 256)
            ∧ (¬hi → lo → t.cpu.a.toNat = (a + 0x06) % 256) ∧ (¬hi → ¬lo → t.cpu.a.toNat = a))
        ∧ (f.n = true → (hi → lo → t.cpu.a.toNat = (a + 0x9A) % 256) ∧ (hi → ¬lo → t.cpu.a.toNat = (a + 0xA0) % 256)
            ∧ (¬hi → lo → t.cpu.a.toNat = (a + 0xFA) % 256) ∧ (¬hi → ¬lo → t.cpu.a.toNat = a))
        ∧ (t.cpu.flags.z = true ↔ t.cpu.a = 0) ∧ t.cpu.flags.n = f.n ∧ t.cpu.flags.h = false
        ∧ (t.cpu.flags.c = true ↔ hi)
        ∧ OtherRegs s t [.a] ∧ t.cpu.sp = s.cpu.sp ∧ t.cpu.pc = s.cpu.pc ∧ Quiet s t 4

/-- O18. DAA makes an ADD of two packed decimal bytes decimal: for x, y below 100 held as two decimal digits, ADD A, B
and then DAA leave the digits of (x + y) mod 100 in A, and the hundred in C (from R346 and R378). -/
def Obligations.DecimalAddition : Prop :=
  ∀ (s t u : State) (x y : Nat), x < 100 → y < 100 →
    s.cpu.a.toNat = x / 10 * 16 + x % 10 → s.cpu.b.toNat = y / 10 * 16 + y % 10 →
    exec .addAB s = .next t → exec .daa t = .next u →
    u.cpu.a.toNat = (x + y) % 100 / 10 * 16 + (x + y) % 10 ∧ (u.cpu.flags.c = true ↔ 100 ≤ x + y)

/-- O19. CPL, SCF and CCF (R379-R381). -/
def Obligations.FlagOperations : Prop :=
  ∀ s : State,
    (encode .cpl = [0x2F] ∧ encode .scf = [0x37] ∧ encode .ccf = [0x3F])
      ∧ (∃ t, exec .cpl s = .next t ∧ t.cpu.a.toNat = 255 - s.cpu.a.toNat
          ∧ t.cpu.flags = { z := s.cpu.flags.z, n := true, h := true, c := s.cpu.flags.c }
          ∧ OtherRegs s t [.a] ∧ t.cpu.sp = s.cpu.sp ∧ t.cpu.pc = s.cpu.pc ∧ Quiet s t 4)
      ∧ (∃ t, exec .scf s = .next t
          ∧ t.cpu.flags = { z := s.cpu.flags.z, n := false, h := false, c := true }
          ∧ OtherRegs s t [] ∧ t.cpu.sp = s.cpu.sp ∧ t.cpu.pc = s.cpu.pc ∧ Quiet s t 4)
      ∧ ∃ t, exec .ccf s = .next t
        ∧ t.cpu.flags = { z := s.cpu.flags.z, n := false, h := false, c := !s.cpu.flags.c }
        ∧ OtherRegs s t [] ∧ t.cpu.sp = s.cpu.sp ∧ t.cpu.pc = s.cpu.pc ∧ Quiet s t 4

/-! 16-bit arithmetic. -/

/-- O20. `ADD HL, rr`, `INC rr`, `DEC rr` and `ADD SP, e8` (R390-R393). -/
def Obligations.WordArithmetic : Prop :=
  ∀ (s : State) (p : Pair) (e : Byte),
    let hl := (readPair s .hl).toNat
    let v := (readPair s p).toNat
    (encode (Instr.addHL p) = [BitVec.ofNat 8 (0x09 + 16 * pairCode p)]
        ∧ ∃ t, exec (Instr.addHL p) s = .next t
          ∧ (readPair t .hl).toNat = (hl + v) % 65536 ∧ t.cpu.flags.z = s.cpu.flags.z ∧ t.cpu.flags.n = false
          ∧ (t.cpu.flags.h = true ↔ 4095 < hl % 4096 + v % 4096) ∧ (t.cpu.flags.c = true ↔ 65535 < hl + v)
          ∧ OtherRegs s t [.h, .l] ∧ t.cpu.sp = s.cpu.sp ∧ t.cpu.pc = s.cpu.pc ∧ Quiet s t 8)
      ∧ (∀ up : Bool,
          encode (if up then Instr.incPair p else Instr.decPair p)
              = [BitVec.ofNat 8 ((if up then 0x03 else 0x0B) + 16 * pairCode p)]
            ∧ ∃ t, exec (if up then Instr.incPair p else Instr.decPair p) s = .next t
              ∧ (readPair t p).toNat = (if up then v + 1 else v + 65535) % 65536
              ∧ (∀ q, q ≠ p → readPair t q = readPair s q) ∧ t.cpu.a = s.cpu.a ∧ t.cpu.flags = s.cpu.flags
              ∧ t.cpu.pc = s.cpu.pc ∧ Quiet s t 8)
      ∧ encode (.addSPe8 e) = [0xE8, e]
      ∧ ∃ t, exec (.addSPe8 e) s = .next t
        ∧ t.cpu.sp.toInt = (s.cpu.sp.toInt + e.toInt).bmod 65536 ∧ t.cpu.flags.z = false ∧ t.cpu.flags.n = false
        ∧ (t.cpu.flags.h = true ↔ 15 < s.cpu.sp.toNat % 16 + e.toNat % 16)
        ∧ (t.cpu.flags.c = true ↔ 255 < s.cpu.sp.toNat % 256 + e.toNat)
        ∧ OtherRegs s t [] ∧ t.cpu.pc = s.cpu.pc ∧ Quiet s t 16

/-! Rotates, shifts and bits. -/

/-- O21. RLCA, RRCA, RLA and RRA (R400-R403): Z is cleared whatever the result. -/
def Obligations.RotateAccumulator : Prop :=
  ∀ (s : State) (op : RotOp) (i : Instr) (code : Byte),
    (op = .rlc ∧ i = .rlca ∧ code = 0x07) ∨ (op = .rrc ∧ i = .rrca ∧ code = 0x0F)
        ∨ (op = .rl ∧ i = .rla ∧ code = 0x17) ∨ (op = .rr ∧ i = .rra ∧ code = 0x1F) →
    encode i = [code]
      ∧ ∃ t, exec i s = .next t
        ∧ t.cpu.a.toNat = rotNumber op s.cpu.a.toNat (bitNat s.cpu.flags.c)
        ∧ t.cpu.flags.z = false ∧ t.cpu.flags.n = false ∧ t.cpu.flags.h = false
        ∧ bitNat t.cpu.flags.c = rotOutBit op s.cpu.a.toNat
        ∧ OtherRegs s t [.a] ∧ t.cpu.sp = s.cpu.sp ∧ t.cpu.pc = s.cpu.pc ∧ Quiet s t 4

/-- O22. RLC, RRC, RL and RR on a register and on the byte at HL (R404-R411). -/
def Obligations.RotatePrefixed : Prop :=
  ∀ (s : State) (op : RotOp) (p : Place), op = .rlc ∨ op = .rrc ∨ op = .rl ∨ op = .rr →
    let v := (placeByte s p).toNat
    encode (rotForm op p) = cbBytes 0 (rotCode op) p
      ∧ ∃ t w, exec (rotForm op p) s = .next t ∧ PlaceGets s t p w (placeCost p 8 16)
        ∧ w.toNat = rotNumber op v (bitNat s.cpu.flags.c)
        ∧ (t.cpu.flags.z = true ↔ w = 0) ∧ t.cpu.flags.n = false ∧ t.cpu.flags.h = false
        ∧ bitNat t.cpu.flags.c = rotOutBit op v

/-- O23. SLA, SRA, SWAP and SRL on a register and on the byte at HL (R412-R419). -/
def Obligations.ShiftPrefixed : Prop :=
  ∀ (s : State) (op : RotOp) (p : Place), op = .sla ∨ op = .sra ∨ op = .swap ∨ op = .srl →
    let v := (placeByte s p).toNat
    encode (rotForm op p) = cbBytes 0 (rotCode op) p
      ∧ ∃ t w, exec (rotForm op p) s = .next t ∧ PlaceGets s t p w (placeCost p 8 16)
        ∧ w.toNat = rotNumber op v (bitNat s.cpu.flags.c)
        ∧ (t.cpu.flags.z = true ↔ w = 0) ∧ t.cpu.flags.n = false ∧ t.cpu.flags.h = false
        ∧ bitNat t.cpu.flags.c = rotOutBit op v

/-- O24. BIT, RES and SET on a register and on the byte at HL (R420-R425). -/
def Obligations.BitOperations : Prop :=
  ∀ (s : State) (b : Fin 8) (p : Place),
    let v := placeByte s p
    (encode (bitForm b p) = cbBytes 1 b p
        ∧ ∃ t, exec (bitForm b p) s = .next t
          ∧ t.cpu.flags = { z := !v.getLsbD b, n := false, h := true, c := s.cpu.flags.c }
          ∧ OtherRegs s t [] ∧ t.cpu.sp = s.cpu.sp ∧ t.cpu.pc = s.cpu.pc ∧ Quiet s t (placeCost p 8 12))
      ∧ ∀ set : Bool,
        encode (if set then setForm b p else resForm b p) = cbBytes (if set then 3 else 2) b p
          ∧ ∃ t w, exec (if set then setForm b p else resForm b p) s = .next t
            ∧ PlaceGets s t p w (placeCost p 8 16) ∧ t.cpu.flags = s.cpu.flags
            ∧ ∀ k, k < 8 → w.getLsbD k = if k = b.val then set else v.getLsbD k

/-- O25. The prefix 0xCB runs, in the same step, the CB-map instruction its second byte names (R487): the meaning of the
bare prefix is the meaning of that instruction on the state after its byte is fetched. -/
def Obligations.PrefixRuns : Prop :=
  ∀ s : State,
    decodeBytes 0xCB (memRead s s.cpu.pc) 0 ≠ .prefixCb
      ∧ exec .prefixCb s = exec (decodeBytes 0xCB (memRead s s.cpu.pc) 0) (fetch8 s).2
      ∧ ∃ t, exec .prefixCb s = .next t

/-! Control transfer. -/

/-- O26. JP a16, JP cc, JP HL, JR and JR cc (R450-R454). -/
def Obligations.Jumps : Prop :=
  ∀ (s : State) (a : Word) (e : Byte) (cc : Cond),
    let rel := s.cpu.pc + e.signExtend 16
    (encode (.jp a) = [0xC3, loByte a, hiByte a] ∧ ∃ t, exec (.jp a) s = .next t ∧ Jumped s t a 16)
      ∧ (encode (Instr.jpIf cc a) = [BitVec.ofNat 8 (0xC2 + 8 * condCode cc), loByte a, hiByte a]
          ∧ ∃ t, exec (Instr.jpIf cc a) s = .next t
            ∧ if condHolds cc s.cpu.flags then Jumped s t a 16 else Jumped s t s.cpu.pc 12)
      ∧ (encode .jpHL = [0xE9] ∧ ∃ t, exec .jpHL s = .next t ∧ Jumped s t (readPair s .hl) 4)
      ∧ (encode (.jr e) = [0x18, e] ∧ ∃ t, exec (.jr e) s = .next t ∧ Jumped s t rel 12)
      ∧ encode (Instr.jrIf cc e) = [BitVec.ofNat 8 (0x20 + 8 * condCode cc), e]
      ∧ ∃ t, exec (Instr.jrIf cc e) s = .next t
        ∧ if condHolds cc s.cpu.flags then Jumped s t rel 12 else Jumped s t s.cpu.pc 8

/-- O27. CALL a16, CALL cc and RST (R455, R456, R462): the pushed value is the address of the next instruction. -/
def Obligations.Calls : Prop :=
  ∀ (s : State) (a : Word) (cc : Cond) (y : Fin 8),
    (encode (.call a) = [0xCD, loByte a, hiByte a] ∧ ∃ t, exec (.call a) s = .next t ∧ Called s t s.cpu.pc a 24)
      ∧ (encode (Instr.callIf cc a) = [BitVec.ofNat 8 (0xC4 + 8 * condCode cc), loByte a, hiByte a]
          ∧ ∃ t, exec (Instr.callIf cc a) s = .next t
            ∧ if condHolds cc s.cpu.flags then Called s t s.cpu.pc a 24 else Jumped s t s.cpu.pc 12)
      ∧ encode (Instr.rst y) = [BitVec.ofNat 8 (0xC7 + 8 * y.val)]
      ∧ ∃ t, exec (Instr.rst y) s = .next t ∧ Called s t s.cpu.pc (BitVec.ofNat 16 (8 * y.val)) 16

/-- O28. RET, RET cc and RETI (R457-R459): pc from the stack, SP up by two; RETI sets IME at once. -/
def Obligations.Returns : Prop :=
  ∀ (s : State) (cc : Cond),
    let ra := joinBytes (memRead s (s.cpu.sp + 1)) (memRead s s.cpu.sp)
    (encode .ret = [0xC9]
        ∧ ∃ t, exec .ret s = .next t ∧ t.cpu = { s.cpu with sp := s.cpu.sp + 2, pc := ra } ∧ Quiet s t 16)
      ∧ (encode (Instr.retIf cc) = [BitVec.ofNat 8 (0xC0 + 8 * condCode cc)]
          ∧ ∃ t, exec (Instr.retIf cc) s = .next t
            ∧ if condHolds cc s.cpu.flags then
                t.cpu = { s.cpu with sp := s.cpu.sp + 2, pc := ra } ∧ Quiet s t 20
              else Jumped s t s.cpu.pc 8)
      ∧ encode .reti = [0xD9]
      ∧ ∃ t, exec .reti s = .next t
        ∧ t.cpu = { s.cpu with sp := s.cpu.sp + 2, pc := ra, ime := true, eiPending := false }
        ∧ SameWorld s t ∧ SameReads s t ∧ t.cost = s.cost + 16

/-! CPU control. -/

/-- O29. NOP, DI and EI (R480, R484, R485); the delay after EI is the step's (O36). -/
def Obligations.NopDiEi : Prop :=
  ∀ s : State,
    (encode .nop = [0x00] ∧ encode .di = [0xF3] ∧ encode .ei = [0xFB])
      ∧ (∃ t, exec .nop s = .next t ∧ t.cpu = s.cpu ∧ SameWorld s t ∧ SameReads s t ∧ t.cost = s.cost + 4)
      ∧ (∃ t, exec .di s = .next t ∧ t.cpu = { s.cpu with ime := false, eiPending := false }
          ∧ SameWorld s t ∧ SameReads s t ∧ t.cost = s.cost + 4)
      ∧ ∃ t, exec .ei s = .next t ∧ t.cpu = { s.cpu with eiPending := true }
        ∧ SameWorld s t ∧ SameReads s t ∧ t.cost = s.cost + 4

/-- O30. HALT (R481): it halts, unless IME = 0 and an enabled interrupt is requested, when it raises the HALT bug. -/
def Obligations.HaltInstruction : Prop :=
  ∀ s : State,
    let bug := s.cpu.ime = false ∧ ∃ k, k < 5 ∧ s.irq.enable.getLsbD k = true ∧ s.irq.flag.getLsbD k = true
    encode .halt = [0x76]
      ∧ ∃ t, exec .halt s = .next t
        ∧ (bug → t.cpu = { s.cpu with haltBug := true }) ∧ (¬bug → t.cpu = { s.cpu with halted := true })
        ∧ SameWorld s t ∧ SameReads s t ∧ t.cost = s.cost + 4

/-- O31. STOP (R483): the divider is zeroed; with the CGB speed switch armed the speed changes, else the CPU stops. The
timer counts the divider's fall as R621 says of every change (log 15). -/
def Obligations.StopInstruction : Prop :=
  ∀ (s : State) (n : Byte),
    let switch := cgbMode s = true ∧ s.sel.speedArmed = true
    encode (.stop n) = [0x10, n]
      ∧ ∃ t, exec (.stop n) s = .next t
        ∧ (switch → t.cpu = { s.cpu with doubleSpeed := !s.cpu.doubleSpeed } ∧ t.sel = { s.sel with speedArmed := false })
        ∧ (¬switch → t.cpu = { s.cpu with stopped := true } ∧ t.sel = s.sel)
        ∧ t.timer.divCounter = 0 ∧ t.timer.tma = s.timer.tma ∧ t.timer.tac = s.timer.tac
        ∧ (s.timer.signal = false → t.timer.tima = s.timer.tima ∧ t.irq = s.irq)
        ∧ SameWorld { s with timer := t.timer, irq := t.irq, sel := t.sel } t ∧ t.cost = s.cost + 4

/-- O32. Each of the eleven illegal opcodes stops with `UnknownInstruction(op, false)` in every state (R486). -/
def Obligations.IllegalStops : Prop :=
  ∀ (op : IllegalOp) (s : State),
    encode (Instr.illegal op) = [op.code] ∧ exec (Instr.illegal op) s = .fault (.unknownInstruction op.code false)

/-! The step. -/

/-- O33. A step that executes runs the decoded instruction (R610): where the three bytes from pc decode to i, the step
is exec of i on the state after i's bytes are fetched, then the EI delay and the device window. MODEL'S READING (log 32):
where i is a STOP that switches the speed, its own window runs at the speed the step began with, by R483's "takes effect
for the device clocks of the next step", against the pseudocode of R611. -/
def Obligations.StepRunsDecoded : Prop :=
  ∀ (s : State) (i : Instr) (rest : List Byte),
    nextAction s = .fetch → s.cpu.haltBug = false →
    decode [memRead s s.cpu.pc, memRead s (s.cpu.pc + 1), memRead s (s.cpu.pc + 2)] = .ok (i, rest) →
    step s =
      (match exec i
          { s with
            cost := 0, callbacks := [],
            cpu := { s.cpu with pc := s.cpu.pc + BitVec.ofNat 16 (3 - rest.length) } } with
      | .next t => .next (finishStep s.cpu.doubleSpeed (finishInstr s.cpu.eiPending t))
      | .fault r => .fault r
      | .refused r => .refused r)

/-- O34. The HALT bug (R482): the byte at pc is read twice, once as the opcode with pc not moving, and again as the next
byte fetched. MODEL'S READING (log 32, R483): the device window runs at the speed the step began with, also where the
doubled byte is a STOP that switches the speed. -/
def Obligations.HaltBugFetch : Prop :=
  ∀ (s : State) (i : Instr) (rest : List Byte),
    nextAction s = .fetch → s.cpu.haltBug = true →
    decode [memRead s s.cpu.pc, memRead s s.cpu.pc, memRead s (s.cpu.pc + 1)] = .ok (i, rest) →
    step s =
      (match exec i
          { s with
            cost := 0, callbacks := [],
            cpu := { s.cpu with haltBug := false, pc := s.cpu.pc + BitVec.ofNat 16 (2 - rest.length) } } with
      | .next t => .next (finishStep s.cpu.doubleSpeed (finishInstr s.cpu.eiPending t))
      | .fault r => .fault r
      | .refused r => .refused r)

/-- O35. Interrupt dispatch (R603, R604): the lowest pending bit i is taken; its IF bit, IME, the pending EI and HALT
are cleared; the return address (the HALT's own under the HALT bug) is pushed; pc is 0x0040 + 8i; 20 T-cycles. MODEL'S
READING (log 33): the cost is 20 also where the push writes HDMA5 and runs a general-purpose transfer (R610, R820). -/
def Obligations.InterruptDispatch : Prop :=
  ∀ (s : State) (i : Nat),
    s.cpu.fault = none → s.cpu.stopped = false → s.cpu.ime = true → i < 5 →
    s.irq.enable.getLsbD i = true → s.irq.flag.getLsbD i = true →
    (∀ j, j < i → ¬(s.irq.enable.getLsbD j = true ∧ s.irq.flag.getLsbD j = true)) →
    let ret := if s.cpu.haltBug then s.cpu.pc - 1 else s.cpu.pc
    let b : State :=
      { s with
        cost := 0, callbacks := [], irq := { s.irq with flag := s.irq.flag &&& ~~~(1#5 <<< i) },
        cpu := { s.cpu with ime := false, eiPending := false, halted := false, haltBug := false } }
    ∃ d, step s = .next (finishStep s.cpu.doubleSpeed d)
      ∧ d.cpu = { b.cpu with sp := s.cpu.sp - 2, pc := BitVec.ofNat 16 (0x40 + 8 * i) }
      ∧ SameWorld (push16 b ret) d ∧ StoreFrame2 b d (s.cpu.sp - 1) (hiByte ret) (s.cpu.sp - 2) (loByte ret)
      ∧ d.cost = 20

/-- O36. The EI delay (R612): an EI pending when the step begins and still pending after its instruction turns IME on at
the end of the step; otherwise the step leaves IME and the pending EI as the instruction did. -/
def Obligations.EiDelay : Prop :=
  ∀ s t : State, nextAction s = .fetch →
    exec (fetchInstr (beginStep s)).1 (fetchInstr (beginStep s)).2 = .next t →
    ∃ u, step s = .next u
      ∧ (s.cpu.eiPending = true → t.cpu.eiPending = true → u.cpu.ime = true ∧ u.cpu.eiPending = false)
      ∧ (s.cpu.eiPending = false ∨ t.cpu.eiPending = false →
          u.cpu.ime = t.cpu.ime ∧ u.cpu.eiPending = t.cpu.eiPending)

/-- O37. A halted step fetches nothing, wakes when an enabled interrupt is requested, and costs 4 (R613); a stopped step
moves no device and wakes when a P1 line reads 0 (R614). -/
def Obligations.IdleSteps : Prop :=
  ∀ s : State, s.cpu.fault = none →
    (s.cpu.stopped = false → s.cpu.halted = true → (s.cpu.ime = false ∨ pendingIrq s = 0) →
        ∃ h, step s = .next (finishStep s.cpu.doubleSpeed h) ∧ h.cpu = { s.cpu with halted := decide (pendingIrq s = 0) }
          ∧ SameWorld { s with callbacks := [] } h ∧ h.cost = 4)
      ∧ (s.cpu.stopped = true →
        ∃ t, step s = .next t
          ∧ t.cpu =
              { s.cpu with
                stopped := decide (p1Read s.joypad &&& 0x0F = 0x0F), cycleCount := s.cpu.cycleCount + 4 }
          ∧ SameWorld { s with callbacks := [] } t ∧ t.cost = 4)

/-- O38. The fault is terminal and records the illegal opcode (R600, R486): a step that fetches an illegal opcode faults
with it, the host then holds the same state with `fault` set and pc at the opcode; from a recorded fault every step
faults the same way and changes nothing. MODEL'S READING (log 12): where the HALT bug is pending it stays pending in the
recorded state, by R600's "changes no other state", although the Fetch8 of R482 and R610 clears it before the test for an
illegal opcode. -/
def Obligations.FaultTerminal : Prop :=
  ∀ (s : State) (op : IllegalOp) (k : Byte) (cb : Bool),
    (nextAction s = .fetch → memRead s s.cpu.pc = op.code →
        runStep s = (.fault (.unknownInstruction op.code false),
          { s with cpu := { s.cpu with fault := some (op.code, false) } }))
      ∧ (s.cpu.fault = some (k, cb) → runStep s = (.fault (.unknownInstruction k cb), s))

/-- O39. Every step that goes on costs the T-cycles it reports, and the cycle count moves by exactly them (R610); the
cost is a whole number of M-cycles where the GDMA costs are (R820). -/
def Obligations.StepCost : Prop :=
  ∀ s t : State, step s = .next t →
    t.cpu.cycleCount = s.cpu.cycleCount + t.cost
      ∧ ((∀ c ∈ s.params.gdmaCycles, c % 4 = 0) → t.cost % 4 = 0)

/-! Invariants and reset. -/

/-- O40. No step changes the ROM, the cartridge configuration or the parameters (R806). -/
def Obligations.MachineFixed : Prop := ∀ s t : State, step s = .next t → SameMachine s t

/-- O41. Every step keeps every memory and the framebuffer in canonical form, so that equal memories are equal data. -/
def Obligations.MemoryInvariant : Prop := ∀ s t : State, MemOk s → step s = .next t → MemOk t

/-- O42. Every step keeps the PPU's line, dot and mode as the table of R640 gives them, and parked with the LCD off
(R640, R641, R647). -/
def Obligations.PpuInvariant : Prop := ∀ s t : State, PpuOk s → step s = .next t → PpuOk t

/-- O43. Every step keeps the recorded timer signal, STAT line and P1 lines equal to what the registers give (R621,
R630, R656): the edge detectors never miss a change. -/
def Obligations.LinesInvariant : Prop := ∀ s t : State, LinesOk s → step s = .next t → LinesOk t

/-- O44. Every step keeps the bank registers of MBC1, MBC2 and MBC3 away from 0 (R145, R150, R155). -/
def Obligations.BankInvariant : Prop := ∀ s t : State, BanksOk s → step s = .next t → BanksOk t

/-- O45. The reset state meets every invariant, for every parameter choice, cartridge and canonical image. -/
def Obligations.ResetInvariants : Prop :=
  ∀ (p : Params) (c : Cart) (rom : List Host.Cell), storeWf Region.rom.blank rom = true →
    let s := State.resetWith p c rom
    Alive s ∧ MemOk s ∧ PpuOk s ∧ LinesOk s ∧ BanksOk s

/-- O46. The CPU registers at reset, by MODEL (R801). -/
def Obligations.ResetCpu : Prop :=
  ∀ (p : Params) (c : Cart) (rom : List Host.Cell),
    let s := State.resetWith p c rom
    s.cpu.sp = 0xFFFE ∧ s.cpu.pc = 0x0100
      ∧ (p.model = .dmg →
          readStackPair s .af = 0x01B0 ∧ readPair s .bc = 0x0013 ∧ readPair s .de = 0x00D8 ∧ readPair s .hl = 0x014D)
      ∧ (p.model = .cgb →
          readStackPair s .af = 0x1180 ∧ readPair s .bc = 0x0000 ∧ readPair s .de = 0xFF56 ∧ readPair s .hl = 0x000D)

/-- O47. What the IO registers read at reset through the memory map, in DMG mode and in CGB mode (R70). -/
def Obligations.ResetIo : Prop :=
  ∀ (p : Params) (c : Cart) (rom : List Host.Cell) (row : Word × Byte × Byte),
    row ∈
        ([(0xFF00, 0xCF, 0xCF), (0xFF01, 0x00, 0x00), (0xFF02, 0x7E, 0x7F), (0xFF05, 0x00, 0x00), (0xFF06, 0x00, 0x00),
          (0xFF07, 0xF8, 0xF8), (0xFF0F, 0xE1, 0xE1), (0xFF10, 0x80, 0x80), (0xFF11, 0xBF, 0xBF), (0xFF12, 0xF3, 0xF3),
          (0xFF13, 0xFF, 0xFF), (0xFF14, 0xBF, 0xBF), (0xFF16, 0x3F, 0x3F), (0xFF17, 0x00, 0x00), (0xFF18, 0xFF, 0xFF),
          (0xFF19, 0xBF, 0xBF), (0xFF1A, 0x7F, 0x7F), (0xFF1B, 0xFF, 0xFF), (0xFF1C, 0x9F, 0x9F), (0xFF1D, 0xFF, 0xFF),
          (0xFF1E, 0xBF, 0xBF), (0xFF20, 0xFF, 0xFF), (0xFF21, 0x00, 0x00), (0xFF22, 0x00, 0x00), (0xFF23, 0xBF, 0xBF)]
          ++ [(0xFF24, 0x77, 0x77), (0xFF25, 0xF3, 0xF3), (0xFF26, 0xF1, 0xF1), (0xFF40, 0x91, 0x91),
            (0xFF41, 0x86, 0x86), (0xFF42, 0x00, 0x00), (0xFF43, 0x00, 0x00), (0xFF44, 0x00, 0x00), (0xFF45, 0x00, 0x00),
            (0xFF46, 0xFF, 0x00), (0xFF47, 0xFC, 0xFC), (0xFF48, 0xFF, 0xFF), (0xFF49, 0xFF, 0xFF), (0xFF4A, 0x00, 0x00),
            (0xFF4B, 0x00, 0x00), (0xFF4D, 0xFF, 0x7E), (0xFF4F, 0xFF, 0xFE), (0xFF51, 0xFF, 0xFF), (0xFF52, 0xFF, 0xFF),
            (0xFF53, 0xFF, 0xFF), (0xFF54, 0xFF, 0xFF), (0xFF55, 0xFF, 0xFF), (0xFF68, 0xFF, 0x40), (0xFF6A, 0xFF, 0x40),
            (0xFF70, 0xFF, 0xF8), (0xFFFF, 0x00, 0x00)] : List (Word × Byte × Byte)) →
      let s := State.resetWith p c rom
      memRead s row.1 = (if cgbMode s then row.2.2 else row.2.1) ∧ memRead s 0xFF04 = hiByte p.divCounterReset

/-! Memory. -/

/-- O48. Memory is memory. RAM (R102, R103): a byte written at an address that stands for a byte of RAM and is not
locked out reads back there, and every address that does not stand for that byte reads as before. ROM: 0x0000-0x7FFF
reads the byte of the bank each MBC selects (R134, R140, R146, R151, R156, R166), and a write there changes no memory.
MBC2 (R152, R136): 512 cells of 4 bits, each at every address of the window with its low 9 bits, upper bits 1; 0xFF and
no write while disabled. MBC3 clock (R157, R158): the selected register reads its latched byte, and a write goes, masked,
to it and to the live register. -/
def Obligations.MemoryAccess : Prop :=
  (∀ (s : State) (a : Word) (v : Byte), StoreFrame s (memWrite s a v) a v)
    ∧ (∀ (s : State) (a : Word) (v : Byte), a.toNat < 0x8000 →
        let low := decide (a.toNat < 0x4000)
        let bank :=
          match s.mbc with
          | .mbc0 => if low then 0 else 1
          | .mbc1 r =>
            if low then (if r.mode then 32 * r.bank2.toNat else 0) else 32 * r.bank2.toNat + r.bank1.toNat
          | .mbc2 r => if low then 0 else r.romBank.toNat
          | .mbc3 r => if low then 0 else r.romBank.toNat
          | .mbc5 r => if low then 0 else r.romBank.toNat
        memRead s a = peek s .rom (bank % s.cart.romBanks * 0x4000 + a.toNat % 0x4000) ∧ (memWrite s a v).mem = s.mem)
    ∧ (∀ (s : State) (r : Mbc2) (a : Word) (v : Byte), s.mbc = .mbc2 r → 0xA000 ≤ a.toNat → a.toNat < 0xC000 →
        (r.ramEnable = false → memRead s a = 0xFF ∧ memWrite s a v = s)
          ∧ (r.ramEnable = true →
            memRead s a = 0xF0 ||| peek s .cartRam (a.toNat % 512)
              ∧ ∀ b : Word, memRead (memWrite s a v) b =
                  if 0xA000 ≤ b.toNat ∧ b.toNat < 0xC000 ∧ b.toNat % 512 = a.toNat % 512 then 0xF0 ||| (v &&& 0x0F)
                  else memRead s b))
    ∧ ∀ (s : State) (r : Mbc3) (a : Word) (v : Byte), s.mbc = .mbc3 r → 0xA000 ≤ a.toNat → a.toNat < 0xC000 →
        r.ramEnable = true → s.cart.rtc = true →
        let t := memWrite s a v
        (r.ramSelect = 0x08 → memRead s a = s.rtc.latS ∧ memRead t a = v &&& 0x3F ∧ t.rtc.sec.toNat = v.toNat % 64
            ∧ t.rtc.subsecond = 0)
          ∧ (r.ramSelect = 0x09 → memRead s a = s.rtc.latM ∧ memRead t a = v &&& 0x3F ∧ t.rtc.min.toNat = v.toNat % 64)
          ∧ (r.ramSelect = 0x0A → memRead s a = s.rtc.latH ∧ memRead t a = v &&& 0x1F ∧ t.rtc.hour.toNat = v.toNat % 32)
          ∧ (r.ramSelect = 0x0B → memRead s a = s.rtc.latDL ∧ memRead t a = v
              ∧ t.rtc.day.toNat = s.rtc.day.toNat / 256 * 256 + v.toNat)
          ∧ (r.ramSelect = 0x0C → memRead s a = s.rtc.latDH ∧ memRead t a = v &&& 0xC1
              ∧ t.rtc.day.toNat = v.toNat % 2 * 256 + s.rtc.day.toNat % 256 ∧ t.rtc.halt = v.getLsbD 6
              ∧ t.rtc.carry = v.getLsbD 7)

/-- O49. Echo RAM (R107): an access to 0xE000-0xFDFF is the access to the address minus 0x2000. -/
def Obligations.EchoRam : Prop :=
  ∀ (s : State) (a : Word) (v : Byte), 0xE000 ≤ a.toNat → a.toNat < 0xFE00 →
    memRead s a = memRead s (a - 0x2000) ∧ memWrite s a v = memWrite s (a - 0x2000) v

/-- O50. The unusable area and the unmapped IO addresses read 0xFF, but for an OAM lockout that changes nothing there,
and ignore writes; the CGB registers are unmapped outside CGB mode (R69, R108). -/
def Obligations.UnmappedAddresses : Prop :=
  ∀ (s : State) (a : Word) (v : Byte),
    ((0xFEA0 ≤ a.toNat ∧ a.toNat < 0xFF00) ∨ a = 0xFF03 ∨ (0xFF08 ≤ a.toNat ∧ a.toNat < 0xFF0F) ∨ a = 0xFF15
        ∨ a = 0xFF1F ∨ (0xFF27 ≤ a.toNat ∧ a.toNat < 0xFF30) ∨ a = 0xFF4C ∨ a = 0xFF4E ∨ a = 0xFF50
        ∨ (0xFF56 ≤ a.toNat ∧ a.toNat < 0xFF68) ∨ (0xFF6C ≤ a.toNat ∧ a.toNat < 0xFF70)
        ∨ (0xFF71 ≤ a.toNat ∧ a.toNat < 0xFF80)
        ∨ (cgbMode s = false ∧ (a = 0xFF4D ∨ a = 0xFF4F ∨ (0xFF51 ≤ a.toNat ∧ a.toNat < 0xFF56)
            ∨ (0xFF68 ≤ a.toNat ∧ a.toNat < 0xFF6C) ∨ a = 0xFF70))) →
    memRead s a = 0xFF ∧ memWrite s a v = s

/-- O51. The PPU access lockout (R109): with ACCESS_LOCKOUT and the LCD on, VRAM in mode 3 and OAM in modes 2 and 3 read
0xFF and ignore writes, and so do BCPD and OCPD in mode 3 but for the index step; without it nothing is locked. -/
def Obligations.AccessLockout : Prop :=
  ∀ (s : State) (a : Word) (v : Byte),
    (s.params.accessLockout = false ∨ s.ppu.lcdc.getLsbD 7 = false → lockedOut s a = false)
      ∧ (s.params.accessLockout = true → s.ppu.lcdc.getLsbD 7 = true →
        ((s.ppu.mode = .pixelTransfer ∧ 0x8000 ≤ a.toNat ∧ a.toNat < 0xA000)
            ∨ ((s.ppu.mode = .oamScan ∨ s.ppu.mode = .pixelTransfer) ∧ 0xFE00 ≤ a.toNat ∧ a.toNat < 0xFEA0) →
          memRead s a = 0xFF ∧ memWrite s a v = s)
        ∧ (s.ppu.mode = .pixelTransfer → cgbMode s = true →
          memRead s 0xFF69 = 0xFF ∧ memRead s 0xFF6B = 0xFF
            ∧ memWrite s 0xFF69 v = { s with ppu := { s.ppu with bcps := paletteStep s.ppu.bcps } }
            ∧ memWrite s 0xFF6B v = { s with ppu := { s.ppu with ocps := paletteStep s.ppu.ocps } }))

/-- O52. OAM DMA (R180): a write of v to 0xFF46 stores v and copies the 160 bytes from v << 8 at once, at no cost; a
source at 0xE000 or above is the address minus 0x2000; the lockout does not apply; nothing else changes. -/
def Obligations.OamDma : Prop :=
  ∀ (s : State) (v : Byte),
    let t := memWrite s 0xFF46 v
    t.ppu = { s.ppu with dma := v }
      ∧ (∀ i, i < 160 →
          let src := v.toNat * 256 + i
          peek t .oam i = memReadNoLock s (BitVec.ofNat 16 (if src < 0xE000 then src else src - 0x2000)))
      ∧ (∀ (r : Region) (i : Nat), r ≠ .oam ∨ 160 ≤ i → peek t r i = peek s r i)
      ∧ t.cpu = s.cpu ∧ t.cost = s.cost ∧ SameWorld { s with ppu := t.ppu, mem := t.mem } t

/-- O53. One HDMA block (R187): 16 bytes into VRAM bank vbk at the destination offset, from the source; an undocumented
source gives free bytes (log 5), of which nothing is claimed; the source, the destination and the block count move on,
and the last block ends the transfer. MODEL'S READING (log 18): byte i goes to (hdma_dst + i) modulo 0x2000, which acts
only on a destination that is no multiple of 16, and no run reaches one. -/
def Obligations.HdmaBlockCopy : Prop :=
  ∀ s : State,
    let t := hdmaBlock s
    let src := s.hdma.src.toNat
    let at_ := fun i => vramBank s * 0x2000 + (s.hdma.dst.toNat + i) % 0x2000
    t.hdma.src = s.hdma.src + 16 ∧ t.hdma.dst = s.hdma.dst + 16
      ∧ (s.hdma.blocks = 0 → t.hdma.active = false ∧ t.hdma.blocks = 0x7F)
      ∧ (s.hdma.blocks ≠ 0 → t.hdma.active = s.hdma.active ∧ t.hdma.blocks = s.hdma.blocks - 1)
      ∧ (src ≤ 0x7FF0 ∨ (0xA000 ≤ src ∧ src ≤ 0xDFF0) →
          ∀ i, i < 16 → peek t .vram (at_ i) = memReadNoLock s (s.hdma.src + BitVec.ofNat 16 i))
      ∧ (∀ (r : Region) (k : Nat), (r ≠ .vram ∨ ∀ i, i < 16 → k ≠ at_ i) → peek t r k = peek s r k)
      ∧ t.cpu = s.cpu ∧ t.cost = s.cost

/-! Devices. -/

/-- O54. The divider counts every T-cycle of every device window, whatever else happens (R611, R620); one tick looks for
the falling edge of the selected bit, and an overflow reloads TIMA from TMA and requests the timer (R621, R622). -/
def Obligations.TimerTick : Prop :=
  ∀ (s : State) (fast : Bool) (n : Nat),
    let t := timerTick s
    (advanceDevices fast n s).timer.divCounter = s.timer.divCounter + BitVec.ofNat 16 n
      ∧ t.timer.divCounter = s.timer.divCounter + 1 ∧ t.timer.tma = s.timer.tma ∧ t.timer.tac = s.timer.tac
      ∧ t.timer.signal = (s.timer.tac.getLsbD 2
          && (s.timer.divCounter + 1).getLsbD
            (match s.timer.tac.toNat % 4 with | 0 => 9 | 1 => 3 | 2 => 5 | _ => 7))
      ∧ (s.timer.signal = true ∧ t.timer.signal = false →
          (s.timer.tima = 0xFF → t.timer.tima = s.timer.tma ∧ t.irq.flag = s.irq.flag ||| 0b00100)
            ∧ (s.timer.tima ≠ 0xFF → t.timer.tima = s.timer.tima + 1 ∧ t.irq = s.irq))
      ∧ (¬(s.timer.signal = true ∧ t.timer.signal = false) → t.timer.tima = s.timer.tima ∧ t.irq = s.irq)

/-- O55. A serial transfer with the internal clock and no partner (R635): 8 times 512 T-cycles after it starts it is over,
SB has shifted in eight 1s, SC bit 7 is clear, and interrupt 3 is requested. -/
def Obligations.SerialTransfer : Prop :=
  ∀ (s : State) (v : Byte), cgbMode s = false → v.getLsbD 7 = true → v.getLsbD 0 = true →
    let t := (List.range 4096).foldl (fun u _ => serialTick u) (scWrite s v)
    t.serial.sb = 0xFF ∧ t.serial.active = false ∧ t.serial.sc = 0x01 ∧ t.irq.flag = s.irq.flag ||| 0b01000

/-- O56. The joypad (R630, R631, R51): the button takes its value, a change requests interrupt 4 exactly when some P1
line falls, and the recorded lines are the lines; a change of a button whose group is not selected (P1 bit 4 for the
direction pad, bit 5 for the action buttons) changes neither lines nor requests, and with neither group selected the
lines are 0xF. -/
def Obligations.JoypadEdge : Prop :=
  ∀ (s : State) (k : Button) (pressed : Bool), s.joypad.lines = p1Lines s.joypad →
    let t := setButton s k pressed
    t.joypad.buttons = pressButton s.joypad.buttons k pressed
      ∧ t.joypad.lines = p1Lines t.joypad ∧ t.joypad.select = s.joypad.select ∧ t.irq.enable = s.irq.enable
      ∧ ((∃ j, j < 4 ∧ s.joypad.lines.getLsbD j = true ∧ t.joypad.lines.getLsbD j = false) →
          t.irq.flag = s.irq.flag ||| 0b10000)
      ∧ ((∀ j, j < 4 → s.joypad.lines.getLsbD j = true → t.joypad.lines.getLsbD j = true) → t.irq = s.irq)
      ∧ (s.joypad.select.getLsbD 0 = true → k = .right ∨ k = .left ∨ k = .up ∨ k = .down →
          t.joypad.lines = s.joypad.lines ∧ t.irq = s.irq)
      ∧ (s.joypad.select.getLsbD 1 = true → k = .a ∨ k = .b ∨ k = .select ∨ k = .start →
          t.joypad.lines = s.joypad.lines ∧ t.irq = s.irq)
      ∧ (s.joypad.select = 0b11 → t.joypad.lines = 0xF)

/-- O57. The PPU's dot (R641, R659): with the LCD on, the position in the frame of 70,224 dots moves by one, the vblank
callback and the VBlank request come exactly on entering line 144, and with the LCD off a dot does nothing. -/
def Obligations.PpuPosition : Prop :=
  ∀ s : State, PpuOk s →
    let t := ppuDot s
    (lcdOn s = false → t = s)
      ∧ (lcdOn s = true →
        framePosition t = (framePosition s + 1) % 70224
          ∧ (framePosition t = 144 * 456 → t.callbacks = s.callbacks ++ [.vblank] ∧ t.irq.flag.getLsbD 0 = true)
          ∧ (framePosition t ≠ 144 * 456 →
              t.callbacks = s.callbacks ∧ t.irq.flag.getLsbD 0 = s.irq.flag.getLsbD 0))

/-- O58. Sprite selection (R645): at most ten, in rising OAM order, each covering the line by its Y; a covering sprite is
left out only behind ten selected ones of lower index. -/
def Obligations.SpriteSelection : Prop :=
  ∀ s : State,
    let h := if s.ppu.lcdc.getLsbD 2 then 16 else 8
    let covers := fun i => (peek s .oam (4 * i)).toNat ≤ s.ppu.ly + 16 ∧ s.ppu.ly + 16 < (peek s .oam (4 * i)).toNat + h
    let l := selectSprites s
    l.length ≤ 10 ∧ l.Pairwise (· < ·) ∧ (∀ i ∈ l, i < 40 ∧ covers i)
      ∧ ∀ i, i < 40 → covers i → i ∉ l → l.length = 10 ∧ ∀ j ∈ l, j < i

/-- O59. APU power (R64-R68, R681, R683, R685): after switching off every address 0xFF10-0xFF25 reads its read mask, the
unmapped ones 0xFF, and NR52 reads 0x70; the mixer gives (0, 0) and wave RAM is kept; while off, a write to 0xFF10-0xFF25
is ignored. -/
def Obligations.ApuPower : Prop :=
  ∀ (s : State) (v : Byte), s.apu.power = true → v.getLsbD 7 = false →
    let t := memWrite s 0xFF26 v
    memRead t 0xFF26 = 0x70
      ∧ (memRead t 0xFF10 = 0x80 ∧ memRead t 0xFF11 = 0x3F ∧ memRead t 0xFF12 = 0x00 ∧ memRead t 0xFF13 = 0xFF
        ∧ memRead t 0xFF14 = 0xBF ∧ memRead t 0xFF15 = 0xFF ∧ memRead t 0xFF16 = 0x3F ∧ memRead t 0xFF17 = 0x00
        ∧ memRead t 0xFF18 = 0xFF ∧ memRead t 0xFF19 = 0xBF)
      ∧ (memRead t 0xFF1A = 0x7F ∧ memRead t 0xFF1B = 0xFF ∧ memRead t 0xFF1C = 0x9F ∧ memRead t 0xFF1D = 0xFF
        ∧ memRead t 0xFF1E = 0xBF ∧ memRead t 0xFF1F = 0xFF)
      ∧ (memRead t 0xFF20 = 0xFF ∧ memRead t 0xFF21 = 0x00 ∧ memRead t 0xFF22 = 0x00 ∧ memRead t 0xFF23 = 0xBF
        ∧ memRead t 0xFF24 = 0x00 ∧ memRead t 0xFF25 = 0x00)
      ∧ mix t = (0, 0)
      ∧ (∀ k, peek t .wave k = peek s .wave k)
      ∧ ∀ (a : Word) (w : Byte), 0xFF10 ≤ a.toNat → a.toNat < 0xFF26 → memWrite t a w = t

/-- O60. Loading a cartridge (R131-R133, R800): an image that is short, has a wrong header checksum or a cart type outside
the table of R131 is refused, which installs nothing; every other image is accepted, and the machine is then the reset
state with the cartridge of its header and its bytes as ROM (0xFF beyond them, R134), whatever it was before. -/
def Obligations.LoadRom : Prop :=
  ∀ (s : State) (img : List Byte),
    let code := img.getD 0x0147 0xFF
    let known :=
      code.toNat ∈ [0x00, 0x01, 0x02, 0x03, 0x05, 0x06, 0x08, 0x09, 0x0F, 0x10, 0x11, 0x12, 0x13, 0x19, 0x1A, 0x1B, 0x1C,
        0x1D, 0x1E]
    (img.length < 0x150 → loadRom s img = .error .invalidRom)
      ∧ (headerChecksum img ≠ img.getD 0x014D 0xFF → loadRom s img = .error .invalidRom)
      ∧ (cartType code = none ↔ ¬known)
      ∧ (¬known → loadRom s img = .error .invalidRom)
      ∧ ∀ k, 0x150 ≤ img.length → headerChecksum img = img.getD 0x014D 0xFF → cartType code = some k →
        ∃ t, loadRom s img = .ok t
          ∧ t = State.resetWith s.params (cartOf img k) (storeOfList Region.rom.blank 0 img)
          ∧ t.cpu.pc = 0x0100 ∧ t.cpu.fault = none ∧ ∀ i, peek t .rom i = img.getD i 0xFF
end

