-- ==== Sys2Proof/Laws/State.lean ====
section
/-! SUPPORT. The small lemmas of the state's updates: what each register operation writes and what it leaves, so that no
later proof unfolds a record update. -/

namespace Sys2Proof.Machine

@[simp] theorem spend_params (s : State) (n : Nat) : (spend s n).params = s.params := rfl
@[simp] theorem spend_cart (s : State) (n : Nat) : (spend s n).cart = s.cart := rfl
@[simp] theorem spend_mem (s : State) (n : Nat) : (spend s n).mem = s.mem := rfl
@[simp] theorem spend_cpu (s : State) (n : Nat) : (spend s n).cpu = s.cpu := rfl
@[simp] theorem spend_irq (s : State) (n : Nat) : (spend s n).irq = s.irq := rfl
@[simp] theorem spend_mbc (s : State) (n : Nat) : (spend s n).mbc = s.mbc := rfl
@[simp] theorem spend_rtc (s : State) (n : Nat) : (spend s n).rtc = s.rtc := rfl
@[simp] theorem spend_timer (s : State) (n : Nat) : (spend s n).timer = s.timer := rfl
@[simp] theorem spend_serial (s : State) (n : Nat) : (spend s n).serial = s.serial := rfl
@[simp] theorem spend_joypad (s : State) (n : Nat) : (spend s n).joypad = s.joypad := rfl
@[simp] theorem spend_sel (s : State) (n : Nat) : (spend s n).sel = s.sel := rfl
@[simp] theorem spend_hdma (s : State) (n : Nat) : (spend s n).hdma = s.hdma := rfl
@[simp] theorem spend_ppu (s : State) (n : Nat) : (spend s n).ppu = s.ppu := rfl
@[simp] theorem spend_apu (s : State) (n : Nat) : (spend s n).apu = s.apu := rfl
@[simp] theorem spend_freeCount (s : State) (n : Nat) : (spend s n).freeCount = s.freeCount := rfl
@[simp] theorem spend_callbacks (s : State) (n : Nat) : (spend s n).callbacks = s.callbacks := rfl

@[simp] theorem callBack_params (s : State) (c : Callback) : (callBack s c).params = s.params := rfl
@[simp] theorem callBack_cart (s : State) (c : Callback) : (callBack s c).cart = s.cart := rfl
@[simp] theorem callBack_mem (s : State) (c : Callback) : (callBack s c).mem = s.mem := rfl
@[simp] theorem callBack_cpu (s : State) (c : Callback) : (callBack s c).cpu = s.cpu := rfl
@[simp] theorem callBack_irq (s : State) (c : Callback) : (callBack s c).irq = s.irq := rfl
@[simp] theorem callBack_mbc (s : State) (c : Callback) : (callBack s c).mbc = s.mbc := rfl
@[simp] theorem callBack_rtc (s : State) (c : Callback) : (callBack s c).rtc = s.rtc := rfl
@[simp] theorem callBack_timer (s : State) (c : Callback) : (callBack s c).timer = s.timer := rfl
@[simp] theorem callBack_serial (s : State) (c : Callback) : (callBack s c).serial = s.serial := rfl
@[simp] theorem callBack_joypad (s : State) (c : Callback) : (callBack s c).joypad = s.joypad := rfl
@[simp] theorem callBack_sel (s : State) (c : Callback) : (callBack s c).sel = s.sel := rfl
@[simp] theorem callBack_hdma (s : State) (c : Callback) : (callBack s c).hdma = s.hdma := rfl
@[simp] theorem callBack_ppu (s : State) (c : Callback) : (callBack s c).ppu = s.ppu := rfl
@[simp] theorem callBack_apu (s : State) (c : Callback) : (callBack s c).apu = s.apu := rfl
@[simp] theorem callBack_cost (s : State) (c : Callback) : (callBack s c).cost = s.cost := rfl
@[simp] theorem callBack_freeCount (s : State) (c : Callback) : (callBack s c).freeCount = s.freeCount := rfl

@[simp] theorem request_params (s : State) (i : Nat) : (request s i).params = s.params := rfl
@[simp] theorem request_cart (s : State) (i : Nat) : (request s i).cart = s.cart := rfl
@[simp] theorem request_mem (s : State) (i : Nat) : (request s i).mem = s.mem := rfl
@[simp] theorem request_cpu (s : State) (i : Nat) : (request s i).cpu = s.cpu := rfl
@[simp] theorem request_mbc (s : State) (i : Nat) : (request s i).mbc = s.mbc := rfl
@[simp] theorem request_rtc (s : State) (i : Nat) : (request s i).rtc = s.rtc := rfl
@[simp] theorem request_timer (s : State) (i : Nat) : (request s i).timer = s.timer := rfl
@[simp] theorem request_serial (s : State) (i : Nat) : (request s i).serial = s.serial := rfl
@[simp] theorem request_joypad (s : State) (i : Nat) : (request s i).joypad = s.joypad := rfl
@[simp] theorem request_sel (s : State) (i : Nat) : (request s i).sel = s.sel := rfl
@[simp] theorem request_hdma (s : State) (i : Nat) : (request s i).hdma = s.hdma := rfl
@[simp] theorem request_ppu (s : State) (i : Nat) : (request s i).ppu = s.ppu := rfl
@[simp] theorem request_apu (s : State) (i : Nat) : (request s i).apu = s.apu := rfl
@[simp] theorem request_cost (s : State) (i : Nat) : (request s i).cost = s.cost := rfl
@[simp] theorem request_freeCount (s : State) (i : Nat) : (request s i).freeCount = s.freeCount := rfl
@[simp] theorem request_callbacks (s : State) (i : Nat) : (request s i).callbacks = s.callbacks := rfl

@[simp] theorem poke_params (s : State) (r : Region) (i : Nat) (v : Byte) : (poke s r i v).params = s.params := rfl
@[simp] theorem poke_cart (s : State) (r : Region) (i : Nat) (v : Byte) : (poke s r i v).cart = s.cart := rfl
@[simp] theorem poke_cpu (s : State) (r : Region) (i : Nat) (v : Byte) : (poke s r i v).cpu = s.cpu := rfl
@[simp] theorem poke_irq (s : State) (r : Region) (i : Nat) (v : Byte) : (poke s r i v).irq = s.irq := rfl
@[simp] theorem poke_mbc (s : State) (r : Region) (i : Nat) (v : Byte) : (poke s r i v).mbc = s.mbc := rfl
@[simp] theorem poke_rtc (s : State) (r : Region) (i : Nat) (v : Byte) : (poke s r i v).rtc = s.rtc := rfl
@[simp] theorem poke_timer (s : State) (r : Region) (i : Nat) (v : Byte) : (poke s r i v).timer = s.timer := rfl
@[simp] theorem poke_serial (s : State) (r : Region) (i : Nat) (v : Byte) : (poke s r i v).serial = s.serial := rfl
@[simp] theorem poke_joypad (s : State) (r : Region) (i : Nat) (v : Byte) : (poke s r i v).joypad = s.joypad := rfl
@[simp] theorem poke_sel (s : State) (r : Region) (i : Nat) (v : Byte) : (poke s r i v).sel = s.sel := rfl
@[simp] theorem poke_hdma (s : State) (r : Region) (i : Nat) (v : Byte) : (poke s r i v).hdma = s.hdma := rfl
@[simp] theorem poke_ppu (s : State) (r : Region) (i : Nat) (v : Byte) : (poke s r i v).ppu = s.ppu := rfl
@[simp] theorem poke_apu (s : State) (r : Region) (i : Nat) (v : Byte) : (poke s r i v).apu = s.apu := rfl
@[simp] theorem poke_cost (s : State) (r : Region) (i : Nat) (v : Byte) : (poke s r i v).cost = s.cost := rfl
@[simp] theorem poke_freeCount (s : State) (r : Region) (i : Nat) (v : Byte)
    : (poke s r i v).freeCount = s.freeCount :=
  rfl
@[simp] theorem poke_callbacks (s : State) (r : Region) (i : Nat) (v : Byte)
    : (poke s r i v).callbacks = s.callbacks :=
  rfl

@[simp] theorem setFlags_params (s : State) (f : Flags) : (setFlags s f).params = s.params := rfl
@[simp] theorem setFlags_cart (s : State) (f : Flags) : (setFlags s f).cart = s.cart := rfl
@[simp] theorem setFlags_mem (s : State) (f : Flags) : (setFlags s f).mem = s.mem := rfl
@[simp] theorem setFlags_irq (s : State) (f : Flags) : (setFlags s f).irq = s.irq := rfl
@[simp] theorem setFlags_mbc (s : State) (f : Flags) : (setFlags s f).mbc = s.mbc := rfl
@[simp] theorem setFlags_rtc (s : State) (f : Flags) : (setFlags s f).rtc = s.rtc := rfl
@[simp] theorem setFlags_timer (s : State) (f : Flags) : (setFlags s f).timer = s.timer := rfl
@[simp] theorem setFlags_serial (s : State) (f : Flags) : (setFlags s f).serial = s.serial := rfl
@[simp] theorem setFlags_joypad (s : State) (f : Flags) : (setFlags s f).joypad = s.joypad := rfl
@[simp] theorem setFlags_sel (s : State) (f : Flags) : (setFlags s f).sel = s.sel := rfl
@[simp] theorem setFlags_hdma (s : State) (f : Flags) : (setFlags s f).hdma = s.hdma := rfl
@[simp] theorem setFlags_ppu (s : State) (f : Flags) : (setFlags s f).ppu = s.ppu := rfl
@[simp] theorem setFlags_apu (s : State) (f : Flags) : (setFlags s f).apu = s.apu := rfl
@[simp] theorem setFlags_cost (s : State) (f : Flags) : (setFlags s f).cost = s.cost := rfl
@[simp] theorem setFlags_freeCount (s : State) (f : Flags) : (setFlags s f).freeCount = s.freeCount := rfl
@[simp] theorem setFlags_callbacks (s : State) (f : Flags) : (setFlags s f).callbacks = s.callbacks := rfl

@[simp] theorem setPc_params (s : State) (t : Word) : (setPc s t).params = s.params := rfl
@[simp] theorem setPc_cart (s : State) (t : Word) : (setPc s t).cart = s.cart := rfl
@[simp] theorem setPc_mem (s : State) (t : Word) : (setPc s t).mem = s.mem := rfl
@[simp] theorem setPc_irq (s : State) (t : Word) : (setPc s t).irq = s.irq := rfl
@[simp] theorem setPc_mbc (s : State) (t : Word) : (setPc s t).mbc = s.mbc := rfl
@[simp] theorem setPc_rtc (s : State) (t : Word) : (setPc s t).rtc = s.rtc := rfl
@[simp] theorem setPc_timer (s : State) (t : Word) : (setPc s t).timer = s.timer := rfl
@[simp] theorem setPc_serial (s : State) (t : Word) : (setPc s t).serial = s.serial := rfl
@[simp] theorem setPc_joypad (s : State) (t : Word) : (setPc s t).joypad = s.joypad := rfl
@[simp] theorem setPc_sel (s : State) (t : Word) : (setPc s t).sel = s.sel := rfl
@[simp] theorem setPc_hdma (s : State) (t : Word) : (setPc s t).hdma = s.hdma := rfl
@[simp] theorem setPc_ppu (s : State) (t : Word) : (setPc s t).ppu = s.ppu := rfl
@[simp] theorem setPc_apu (s : State) (t : Word) : (setPc s t).apu = s.apu := rfl
@[simp] theorem setPc_cost (s : State) (t : Word) : (setPc s t).cost = s.cost := rfl
@[simp] theorem setPc_freeCount (s : State) (t : Word) : (setPc s t).freeCount = s.freeCount := rfl
@[simp] theorem setPc_callbacks (s : State) (t : Word) : (setPc s t).callbacks = s.callbacks := rfl

@[simp] theorem setSp_params (s : State) (v : Word) : (setSp s v).params = s.params := rfl
@[simp] theorem setSp_cart (s : State) (v : Word) : (setSp s v).cart = s.cart := rfl
@[simp] theorem setSp_mem (s : State) (v : Word) : (setSp s v).mem = s.mem := rfl
@[simp] theorem setSp_irq (s : State) (v : Word) : (setSp s v).irq = s.irq := rfl
@[simp] theorem setSp_mbc (s : State) (v : Word) : (setSp s v).mbc = s.mbc := rfl
@[simp] theorem setSp_rtc (s : State) (v : Word) : (setSp s v).rtc = s.rtc := rfl
@[simp] theorem setSp_timer (s : State) (v : Word) : (setSp s v).timer = s.timer := rfl
@[simp] theorem setSp_serial (s : State) (v : Word) : (setSp s v).serial = s.serial := rfl
@[simp] theorem setSp_joypad (s : State) (v : Word) : (setSp s v).joypad = s.joypad := rfl
@[simp] theorem setSp_sel (s : State) (v : Word) : (setSp s v).sel = s.sel := rfl
@[simp] theorem setSp_hdma (s : State) (v : Word) : (setSp s v).hdma = s.hdma := rfl
@[simp] theorem setSp_ppu (s : State) (v : Word) : (setSp s v).ppu = s.ppu := rfl
@[simp] theorem setSp_apu (s : State) (v : Word) : (setSp s v).apu = s.apu := rfl
@[simp] theorem setSp_cost (s : State) (v : Word) : (setSp s v).cost = s.cost := rfl
@[simp] theorem setSp_freeCount (s : State) (v : Word) : (setSp s v).freeCount = s.freeCount := rfl
@[simp] theorem setSp_callbacks (s : State) (v : Word) : (setSp s v).callbacks = s.callbacks := rfl

@[simp] theorem writeReg_params (s : State) (r : Reg8) (v : Byte)
    : (writeReg s r v).params = s.params :=
  by cases r <;> rfl
@[simp] theorem writeReg_cart (s : State) (r : Reg8) (v : Byte) : (writeReg s r v).cart = s.cart := by cases r <;> rfl
@[simp] theorem writeReg_mem (s : State) (r : Reg8) (v : Byte) : (writeReg s r v).mem = s.mem := by cases r <;> rfl
@[simp] theorem writeReg_irq (s : State) (r : Reg8) (v : Byte) : (writeReg s r v).irq = s.irq := by cases r <;> rfl
@[simp] theorem writeReg_mbc (s : State) (r : Reg8) (v : Byte) : (writeReg s r v).mbc = s.mbc := by cases r <;> rfl
@[simp] theorem writeReg_rtc (s : State) (r : Reg8) (v : Byte) : (writeReg s r v).rtc = s.rtc := by cases r <;> rfl
@[simp] theorem writeReg_timer (s : State) (r : Reg8) (v : Byte)
    : (writeReg s r v).timer = s.timer :=
  by cases r <;> rfl
@[simp] theorem writeReg_serial (s : State) (r : Reg8) (v : Byte)
    : (writeReg s r v).serial = s.serial :=
  by cases r <;> rfl
@[simp] theorem writeReg_joypad (s : State) (r : Reg8) (v : Byte)
    : (writeReg s r v).joypad = s.joypad :=
  by cases r <;> rfl
@[simp] theorem writeReg_sel (s : State) (r : Reg8) (v : Byte) : (writeReg s r v).sel = s.sel := by cases r <;> rfl
@[simp] theorem writeReg_hdma (s : State) (r : Reg8) (v : Byte) : (writeReg s r v).hdma = s.hdma := by cases r <;> rfl
@[simp] theorem writeReg_ppu (s : State) (r : Reg8) (v : Byte) : (writeReg s r v).ppu = s.ppu := by cases r <;> rfl
@[simp] theorem writeReg_apu (s : State) (r : Reg8) (v : Byte) : (writeReg s r v).apu = s.apu := by cases r <;> rfl
@[simp] theorem writeReg_cost (s : State) (r : Reg8) (v : Byte) : (writeReg s r v).cost = s.cost := by cases r <;> rfl
@[simp] theorem writeReg_freeCount (s : State) (r : Reg8) (v : Byte)
    : (writeReg s r v).freeCount = s.freeCount :=
  by cases r <;> rfl
@[simp] theorem writeReg_callbacks (s : State) (r : Reg8) (v : Byte)
    : (writeReg s r v).callbacks = s.callbacks :=
  by cases r <;> rfl

@[simp] theorem writePair_params (s : State) (p : Pair) (v : Word)
    : (writePair s p v).params = s.params :=
  by cases p <;> rfl
@[simp] theorem writePair_cart (s : State) (p : Pair) (v : Word)
    : (writePair s p v).cart = s.cart :=
  by cases p <;> rfl
@[simp] theorem writePair_mem (s : State) (p : Pair) (v : Word) : (writePair s p v).mem = s.mem := by cases p <;> rfl
@[simp] theorem writePair_irq (s : State) (p : Pair) (v : Word) : (writePair s p v).irq = s.irq := by cases p <;> rfl
@[simp] theorem writePair_mbc (s : State) (p : Pair) (v : Word) : (writePair s p v).mbc = s.mbc := by cases p <;> rfl
@[simp] theorem writePair_rtc (s : State) (p : Pair) (v : Word) : (writePair s p v).rtc = s.rtc := by cases p <;> rfl
@[simp] theorem writePair_timer (s : State) (p : Pair) (v : Word)
    : (writePair s p v).timer = s.timer :=
  by cases p <;> rfl
@[simp] theorem writePair_serial (s : State) (p : Pair) (v : Word)
    : (writePair s p v).serial = s.serial :=
  by cases p <;> rfl
@[simp] theorem writePair_joypad (s : State) (p : Pair) (v : Word)
    : (writePair s p v).joypad = s.joypad :=
  by cases p <;> rfl
@[simp] theorem writePair_sel (s : State) (p : Pair) (v : Word) : (writePair s p v).sel = s.sel := by cases p <;> rfl
@[simp] theorem writePair_hdma (s : State) (p : Pair) (v : Word)
    : (writePair s p v).hdma = s.hdma :=
  by cases p <;> rfl
@[simp] theorem writePair_ppu (s : State) (p : Pair) (v : Word) : (writePair s p v).ppu = s.ppu := by cases p <;> rfl
@[simp] theorem writePair_apu (s : State) (p : Pair) (v : Word) : (writePair s p v).apu = s.apu := by cases p <;> rfl
@[simp] theorem writePair_cost (s : State) (p : Pair) (v : Word)
    : (writePair s p v).cost = s.cost :=
  by cases p <;> rfl
@[simp] theorem writePair_freeCount (s : State) (p : Pair) (v : Word)
    : (writePair s p v).freeCount = s.freeCount :=
  by cases p <;> rfl
@[simp] theorem writePair_callbacks (s : State) (p : Pair) (v : Word)
    : (writePair s p v).callbacks = s.callbacks :=
  by cases p <;> rfl

@[simp] theorem writeStackPair_params (s : State) (p : StackPair) (v : Word)
    : (writeStackPair s p v).params = s.params :=
  by cases p <;> rfl
@[simp] theorem writeStackPair_cart (s : State) (p : StackPair) (v : Word)
    : (writeStackPair s p v).cart = s.cart :=
  by cases p <;> rfl
@[simp] theorem writeStackPair_mem (s : State) (p : StackPair) (v : Word)
    : (writeStackPair s p v).mem = s.mem :=
  by cases p <;> rfl
@[simp] theorem writeStackPair_irq (s : State) (p : StackPair) (v : Word)
    : (writeStackPair s p v).irq = s.irq :=
  by cases p <;> rfl
@[simp] theorem writeStackPair_mbc (s : State) (p : StackPair) (v : Word)
    : (writeStackPair s p v).mbc = s.mbc :=
  by cases p <;> rfl
@[simp] theorem writeStackPair_rtc (s : State) (p : StackPair) (v : Word)
    : (writeStackPair s p v).rtc = s.rtc :=
  by cases p <;> rfl
@[simp] theorem writeStackPair_timer (s : State) (p : StackPair) (v : Word)
    : (writeStackPair s p v).timer = s.timer :=
  by cases p <;> rfl
@[simp] theorem writeStackPair_serial (s : State) (p : StackPair) (v : Word)
    : (writeStackPair s p v).serial = s.serial :=
  by cases p <;> rfl
@[simp] theorem writeStackPair_joypad (s : State) (p : StackPair) (v : Word)
    : (writeStackPair s p v).joypad = s.joypad :=
  by cases p <;> rfl
@[simp] theorem writeStackPair_sel (s : State) (p : StackPair) (v : Word)
    : (writeStackPair s p v).sel = s.sel :=
  by cases p <;> rfl
@[simp] theorem writeStackPair_hdma (s : State) (p : StackPair) (v : Word)
    : (writeStackPair s p v).hdma = s.hdma :=
  by cases p <;> rfl
@[simp] theorem writeStackPair_ppu (s : State) (p : StackPair) (v : Word)
    : (writeStackPair s p v).ppu = s.ppu :=
  by cases p <;> rfl
@[simp] theorem writeStackPair_apu (s : State) (p : StackPair) (v : Word)
    : (writeStackPair s p v).apu = s.apu :=
  by cases p <;> rfl
@[simp] theorem writeStackPair_cost (s : State) (p : StackPair) (v : Word)
    : (writeStackPair s p v).cost = s.cost :=
  by cases p <;> rfl
@[simp] theorem writeStackPair_freeCount (s : State) (p : StackPair) (v : Word)
    : (writeStackPair s p v).freeCount = s.freeCount :=
  by cases p <;> rfl
@[simp] theorem writeStackPair_callbacks (s : State) (p : StackPair) (v : Word)
    : (writeStackPair s p v).callbacks = s.callbacks :=
  by cases p <;> rfl

@[simp] theorem popSp_params (s : State) : (popSp s).params = s.params := rfl
@[simp] theorem popSp_cart (s : State) : (popSp s).cart = s.cart := rfl
@[simp] theorem popSp_mem (s : State) : (popSp s).mem = s.mem := rfl
@[simp] theorem popSp_irq (s : State) : (popSp s).irq = s.irq := rfl
@[simp] theorem popSp_mbc (s : State) : (popSp s).mbc = s.mbc := rfl
@[simp] theorem popSp_rtc (s : State) : (popSp s).rtc = s.rtc := rfl
@[simp] theorem popSp_timer (s : State) : (popSp s).timer = s.timer := rfl
@[simp] theorem popSp_serial (s : State) : (popSp s).serial = s.serial := rfl
@[simp] theorem popSp_joypad (s : State) : (popSp s).joypad = s.joypad := rfl
@[simp] theorem popSp_sel (s : State) : (popSp s).sel = s.sel := rfl
@[simp] theorem popSp_hdma (s : State) : (popSp s).hdma = s.hdma := rfl
@[simp] theorem popSp_ppu (s : State) : (popSp s).ppu = s.ppu := rfl
@[simp] theorem popSp_apu (s : State) : (popSp s).apu = s.apu := rfl
@[simp] theorem popSp_cost (s : State) : (popSp s).cost = s.cost := rfl
@[simp] theorem popSp_freeCount (s : State) : (popSp s).freeCount = s.freeCount := rfl
@[simp] theorem popSp_callbacks (s : State) : (popSp s).callbacks = s.callbacks := rfl

@[simp] theorem popPc_params (s : State) : (popPc s).params = s.params := by simp [popPc]
@[simp] theorem popPc_cart (s : State) : (popPc s).cart = s.cart := by simp [popPc]
@[simp] theorem popPc_mem (s : State) : (popPc s).mem = s.mem := by simp [popPc]
@[simp] theorem popPc_irq (s : State) : (popPc s).irq = s.irq := by simp [popPc]
@[simp] theorem popPc_mbc (s : State) : (popPc s).mbc = s.mbc := by simp [popPc]
@[simp] theorem popPc_rtc (s : State) : (popPc s).rtc = s.rtc := by simp [popPc]
@[simp] theorem popPc_timer (s : State) : (popPc s).timer = s.timer := by simp [popPc]
@[simp] theorem popPc_serial (s : State) : (popPc s).serial = s.serial := by simp [popPc]
@[simp] theorem popPc_joypad (s : State) : (popPc s).joypad = s.joypad := by simp [popPc]
@[simp] theorem popPc_sel (s : State) : (popPc s).sel = s.sel := by simp [popPc]
@[simp] theorem popPc_hdma (s : State) : (popPc s).hdma = s.hdma := by simp [popPc]
@[simp] theorem popPc_ppu (s : State) : (popPc s).ppu = s.ppu := by simp [popPc]
@[simp] theorem popPc_apu (s : State) : (popPc s).apu = s.apu := by simp [popPc]
@[simp] theorem popPc_cost (s : State) : (popPc s).cost = s.cost := by simp [popPc]
@[simp] theorem popPc_freeCount (s : State) : (popPc s).freeCount = s.freeCount := by simp [popPc]
@[simp] theorem popPc_callbacks (s : State) : (popPc s).callbacks = s.callbacks := by simp [popPc]

@[simp] theorem fetch8_snd_params (s : State) : ((fetch8 s).2).params = s.params := rfl
@[simp] theorem fetch8_snd_cart (s : State) : ((fetch8 s).2).cart = s.cart := rfl
@[simp] theorem fetch8_snd_mem (s : State) : ((fetch8 s).2).mem = s.mem := rfl
@[simp] theorem fetch8_snd_irq (s : State) : ((fetch8 s).2).irq = s.irq := rfl
@[simp] theorem fetch8_snd_mbc (s : State) : ((fetch8 s).2).mbc = s.mbc := rfl
@[simp] theorem fetch8_snd_rtc (s : State) : ((fetch8 s).2).rtc = s.rtc := rfl
@[simp] theorem fetch8_snd_timer (s : State) : ((fetch8 s).2).timer = s.timer := rfl
@[simp] theorem fetch8_snd_serial (s : State) : ((fetch8 s).2).serial = s.serial := rfl
@[simp] theorem fetch8_snd_joypad (s : State) : ((fetch8 s).2).joypad = s.joypad := rfl
@[simp] theorem fetch8_snd_sel (s : State) : ((fetch8 s).2).sel = s.sel := rfl
@[simp] theorem fetch8_snd_hdma (s : State) : ((fetch8 s).2).hdma = s.hdma := rfl
@[simp] theorem fetch8_snd_ppu (s : State) : ((fetch8 s).2).ppu = s.ppu := rfl
@[simp] theorem fetch8_snd_apu (s : State) : ((fetch8 s).2).apu = s.apu := rfl
@[simp] theorem fetch8_snd_cost (s : State) : ((fetch8 s).2).cost = s.cost := rfl
@[simp] theorem fetch8_snd_freeCount (s : State) : ((fetch8 s).2).freeCount = s.freeCount := rfl
@[simp] theorem fetch8_snd_callbacks (s : State) : ((fetch8 s).2).callbacks = s.callbacks := rfl

@[simp] theorem acknowledge_params (s : State) (i : Nat) : (acknowledge s i).params = s.params := rfl
@[simp] theorem acknowledge_cart (s : State) (i : Nat) : (acknowledge s i).cart = s.cart := rfl
@[simp] theorem acknowledge_mem (s : State) (i : Nat) : (acknowledge s i).mem = s.mem := rfl
@[simp] theorem acknowledge_mbc (s : State) (i : Nat) : (acknowledge s i).mbc = s.mbc := rfl
@[simp] theorem acknowledge_rtc (s : State) (i : Nat) : (acknowledge s i).rtc = s.rtc := rfl
@[simp] theorem acknowledge_timer (s : State) (i : Nat) : (acknowledge s i).timer = s.timer := rfl
@[simp] theorem acknowledge_serial (s : State) (i : Nat) : (acknowledge s i).serial = s.serial := rfl
@[simp] theorem acknowledge_joypad (s : State) (i : Nat) : (acknowledge s i).joypad = s.joypad := rfl
@[simp] theorem acknowledge_sel (s : State) (i : Nat) : (acknowledge s i).sel = s.sel := rfl
@[simp] theorem acknowledge_hdma (s : State) (i : Nat) : (acknowledge s i).hdma = s.hdma := rfl
@[simp] theorem acknowledge_ppu (s : State) (i : Nat) : (acknowledge s i).ppu = s.ppu := rfl
@[simp] theorem acknowledge_apu (s : State) (i : Nat) : (acknowledge s i).apu = s.apu := rfl
@[simp] theorem acknowledge_cost (s : State) (i : Nat) : (acknowledge s i).cost = s.cost := rfl
@[simp] theorem acknowledge_freeCount (s : State) (i : Nat) : (acknowledge s i).freeCount = s.freeCount := rfl
@[simp] theorem acknowledge_callbacks (s : State) (i : Nat) : (acknowledge s i).callbacks = s.callbacks := rfl

@[simp] theorem returnFromInterrupt_params (s : State)
    : (returnFromInterrupt s).params = s.params :=
  by simp [returnFromInterrupt]
@[simp] theorem returnFromInterrupt_cart (s : State)
    : (returnFromInterrupt s).cart = s.cart :=
  by simp [returnFromInterrupt]
@[simp] theorem returnFromInterrupt_mem (s : State)
    : (returnFromInterrupt s).mem = s.mem :=
  by simp [returnFromInterrupt]
@[simp] theorem returnFromInterrupt_irq (s : State)
    : (returnFromInterrupt s).irq = s.irq :=
  by simp [returnFromInterrupt]
@[simp] theorem returnFromInterrupt_mbc (s : State)
    : (returnFromInterrupt s).mbc = s.mbc :=
  by simp [returnFromInterrupt]
@[simp] theorem returnFromInterrupt_rtc (s : State)
    : (returnFromInterrupt s).rtc = s.rtc :=
  by simp [returnFromInterrupt]
@[simp] theorem returnFromInterrupt_timer (s : State)
    : (returnFromInterrupt s).timer = s.timer :=
  by simp [returnFromInterrupt]
@[simp] theorem returnFromInterrupt_serial (s : State)
    : (returnFromInterrupt s).serial = s.serial :=
  by simp [returnFromInterrupt]
@[simp] theorem returnFromInterrupt_joypad (s : State)
    : (returnFromInterrupt s).joypad = s.joypad :=
  by simp [returnFromInterrupt]
@[simp] theorem returnFromInterrupt_sel (s : State)
    : (returnFromInterrupt s).sel = s.sel :=
  by simp [returnFromInterrupt]
@[simp] theorem returnFromInterrupt_hdma (s : State)
    : (returnFromInterrupt s).hdma = s.hdma :=
  by simp [returnFromInterrupt]
@[simp] theorem returnFromInterrupt_ppu (s : State)
    : (returnFromInterrupt s).ppu = s.ppu :=
  by simp [returnFromInterrupt]
@[simp] theorem returnFromInterrupt_apu (s : State)
    : (returnFromInterrupt s).apu = s.apu :=
  by simp [returnFromInterrupt]
@[simp] theorem returnFromInterrupt_cost (s : State)
    : (returnFromInterrupt s).cost = s.cost :=
  by simp [returnFromInterrupt]
@[simp] theorem returnFromInterrupt_freeCount (s : State)
    : (returnFromInterrupt s).freeCount = s.freeCount :=
  by simp [returnFromInterrupt]
@[simp] theorem returnFromInterrupt_callbacks (s : State)
    : (returnFromInterrupt s).callbacks = s.callbacks :=
  by simp [returnFromInterrupt]

@[simp] theorem beginStep_params (s : State) : (beginStep s).params = s.params := rfl
@[simp] theorem beginStep_cart (s : State) : (beginStep s).cart = s.cart := rfl
@[simp] theorem beginStep_mem (s : State) : (beginStep s).mem = s.mem := rfl
@[simp] theorem beginStep_cpu (s : State) : (beginStep s).cpu = s.cpu := rfl
@[simp] theorem beginStep_irq (s : State) : (beginStep s).irq = s.irq := rfl
@[simp] theorem beginStep_mbc (s : State) : (beginStep s).mbc = s.mbc := rfl
@[simp] theorem beginStep_rtc (s : State) : (beginStep s).rtc = s.rtc := rfl
@[simp] theorem beginStep_timer (s : State) : (beginStep s).timer = s.timer := rfl
@[simp] theorem beginStep_serial (s : State) : (beginStep s).serial = s.serial := rfl
@[simp] theorem beginStep_joypad (s : State) : (beginStep s).joypad = s.joypad := rfl
@[simp] theorem beginStep_sel (s : State) : (beginStep s).sel = s.sel := rfl
@[simp] theorem beginStep_hdma (s : State) : (beginStep s).hdma = s.hdma := rfl
@[simp] theorem beginStep_ppu (s : State) : (beginStep s).ppu = s.ppu := rfl
@[simp] theorem beginStep_apu (s : State) : (beginStep s).apu = s.apu := rfl
@[simp] theorem beginStep_freeCount (s : State) : (beginStep s).freeCount = s.freeCount := rfl

@[simp] theorem recordFault_params (s : State) (op : Byte) (cb : Bool)
    : (recordFault s op cb).params = s.params :=
  rfl
@[simp] theorem recordFault_cart (s : State) (op : Byte) (cb : Bool) : (recordFault s op cb).cart = s.cart := rfl
@[simp] theorem recordFault_mem (s : State) (op : Byte) (cb : Bool) : (recordFault s op cb).mem = s.mem := rfl
@[simp] theorem recordFault_irq (s : State) (op : Byte) (cb : Bool) : (recordFault s op cb).irq = s.irq := rfl
@[simp] theorem recordFault_mbc (s : State) (op : Byte) (cb : Bool) : (recordFault s op cb).mbc = s.mbc := rfl
@[simp] theorem recordFault_rtc (s : State) (op : Byte) (cb : Bool) : (recordFault s op cb).rtc = s.rtc := rfl
@[simp] theorem recordFault_timer (s : State) (op : Byte) (cb : Bool) : (recordFault s op cb).timer = s.timer := rfl
@[simp] theorem recordFault_serial (s : State) (op : Byte) (cb : Bool)
    : (recordFault s op cb).serial = s.serial :=
  rfl
@[simp] theorem recordFault_joypad (s : State) (op : Byte) (cb : Bool)
    : (recordFault s op cb).joypad = s.joypad :=
  rfl
@[simp] theorem recordFault_sel (s : State) (op : Byte) (cb : Bool) : (recordFault s op cb).sel = s.sel := rfl
@[simp] theorem recordFault_hdma (s : State) (op : Byte) (cb : Bool) : (recordFault s op cb).hdma = s.hdma := rfl
@[simp] theorem recordFault_ppu (s : State) (op : Byte) (cb : Bool) : (recordFault s op cb).ppu = s.ppu := rfl
@[simp] theorem recordFault_apu (s : State) (op : Byte) (cb : Bool) : (recordFault s op cb).apu = s.apu := rfl
@[simp] theorem recordFault_cost (s : State) (op : Byte) (cb : Bool) : (recordFault s op cb).cost = s.cost := rfl
@[simp] theorem recordFault_freeCount (s : State) (op : Byte) (cb : Bool)
    : (recordFault s op cb).freeCount = s.freeCount :=
  rfl
@[simp] theorem recordFault_callbacks (s : State) (op : Byte) (cb : Bool)
    : (recordFault s op cb).callbacks = s.callbacks :=
  rfl

@[simp] theorem setFlags_cpu_a (s : State) (f : Flags) : (setFlags s f).cpu.a = s.cpu.a := rfl
@[simp] theorem setFlags_cpu_b (s : State) (f : Flags) : (setFlags s f).cpu.b = s.cpu.b := rfl
@[simp] theorem setFlags_cpu_c (s : State) (f : Flags) : (setFlags s f).cpu.c = s.cpu.c := rfl
@[simp] theorem setFlags_cpu_d (s : State) (f : Flags) : (setFlags s f).cpu.d = s.cpu.d := rfl
@[simp] theorem setFlags_cpu_e (s : State) (f : Flags) : (setFlags s f).cpu.e = s.cpu.e := rfl
@[simp] theorem setFlags_cpu_h (s : State) (f : Flags) : (setFlags s f).cpu.h = s.cpu.h := rfl
@[simp] theorem setFlags_cpu_l (s : State) (f : Flags) : (setFlags s f).cpu.l = s.cpu.l := rfl
@[simp] theorem setFlags_cpu_flags (s : State) (f : Flags) : (setFlags s f).cpu.flags = f := rfl
@[simp] theorem setFlags_cpu_sp (s : State) (f : Flags) : (setFlags s f).cpu.sp = s.cpu.sp := rfl
@[simp] theorem setFlags_cpu_pc (s : State) (f : Flags) : (setFlags s f).cpu.pc = s.cpu.pc := rfl
@[simp] theorem setFlags_cpu_ime (s : State) (f : Flags) : (setFlags s f).cpu.ime = s.cpu.ime := rfl
@[simp] theorem setFlags_cpu_eiPending (s : State) (f : Flags) : (setFlags s f).cpu.eiPending = s.cpu.eiPending := rfl
@[simp] theorem setFlags_cpu_halted (s : State) (f : Flags) : (setFlags s f).cpu.halted = s.cpu.halted := rfl
@[simp] theorem setFlags_cpu_haltBug (s : State) (f : Flags) : (setFlags s f).cpu.haltBug = s.cpu.haltBug := rfl
@[simp] theorem setFlags_cpu_stopped (s : State) (f : Flags) : (setFlags s f).cpu.stopped = s.cpu.stopped := rfl
@[simp] theorem setFlags_cpu_doubleSpeed (s : State) (f : Flags)
    : (setFlags s f).cpu.doubleSpeed = s.cpu.doubleSpeed :=
  rfl
@[simp] theorem setFlags_cpu_fault (s : State) (f : Flags) : (setFlags s f).cpu.fault = s.cpu.fault := rfl
@[simp] theorem setFlags_cpu_cycleCount (s : State) (f : Flags)
    : (setFlags s f).cpu.cycleCount = s.cpu.cycleCount :=
  rfl

@[simp] theorem setPc_cpu_a (s : State) (t : Word) : (setPc s t).cpu.a = s.cpu.a := rfl
@[simp] theorem setPc_cpu_b (s : State) (t : Word) : (setPc s t).cpu.b = s.cpu.b := rfl
@[simp] theorem setPc_cpu_c (s : State) (t : Word) : (setPc s t).cpu.c = s.cpu.c := rfl
@[simp] theorem setPc_cpu_d (s : State) (t : Word) : (setPc s t).cpu.d = s.cpu.d := rfl
@[simp] theorem setPc_cpu_e (s : State) (t : Word) : (setPc s t).cpu.e = s.cpu.e := rfl
@[simp] theorem setPc_cpu_h (s : State) (t : Word) : (setPc s t).cpu.h = s.cpu.h := rfl
@[simp] theorem setPc_cpu_l (s : State) (t : Word) : (setPc s t).cpu.l = s.cpu.l := rfl
@[simp] theorem setPc_cpu_flags (s : State) (t : Word) : (setPc s t).cpu.flags = s.cpu.flags := rfl
@[simp] theorem setPc_cpu_sp (s : State) (t : Word) : (setPc s t).cpu.sp = s.cpu.sp := rfl
@[simp] theorem setPc_cpu_pc (s : State) (t : Word) : (setPc s t).cpu.pc = t := rfl
@[simp] theorem setPc_cpu_ime (s : State) (t : Word) : (setPc s t).cpu.ime = s.cpu.ime := rfl
@[simp] theorem setPc_cpu_eiPending (s : State) (t : Word) : (setPc s t).cpu.eiPending = s.cpu.eiPending := rfl
@[simp] theorem setPc_cpu_halted (s : State) (t : Word) : (setPc s t).cpu.halted = s.cpu.halted := rfl
@[simp] theorem setPc_cpu_haltBug (s : State) (t : Word) : (setPc s t).cpu.haltBug = s.cpu.haltBug := rfl
@[simp] theorem setPc_cpu_stopped (s : State) (t : Word) : (setPc s t).cpu.stopped = s.cpu.stopped := rfl
@[simp] theorem setPc_cpu_doubleSpeed (s : State) (t : Word) : (setPc s t).cpu.doubleSpeed = s.cpu.doubleSpeed := rfl
@[simp] theorem setPc_cpu_fault (s : State) (t : Word) : (setPc s t).cpu.fault = s.cpu.fault := rfl
@[simp] theorem setPc_cpu_cycleCount (s : State) (t : Word) : (setPc s t).cpu.cycleCount = s.cpu.cycleCount := rfl

@[simp] theorem setSp_cpu_a (s : State) (v : Word) : (setSp s v).cpu.a = s.cpu.a := rfl
@[simp] theorem setSp_cpu_b (s : State) (v : Word) : (setSp s v).cpu.b = s.cpu.b := rfl
@[simp] theorem setSp_cpu_c (s : State) (v : Word) : (setSp s v).cpu.c = s.cpu.c := rfl
@[simp] theorem setSp_cpu_d (s : State) (v : Word) : (setSp s v).cpu.d = s.cpu.d := rfl
@[simp] theorem setSp_cpu_e (s : State) (v : Word) : (setSp s v).cpu.e = s.cpu.e := rfl
@[simp] theorem setSp_cpu_h (s : State) (v : Word) : (setSp s v).cpu.h = s.cpu.h := rfl
@[simp] theorem setSp_cpu_l (s : State) (v : Word) : (setSp s v).cpu.l = s.cpu.l := rfl
@[simp] theorem setSp_cpu_flags (s : State) (v : Word) : (setSp s v).cpu.flags = s.cpu.flags := rfl
@[simp] theorem setSp_cpu_sp (s : State) (v : Word) : (setSp s v).cpu.sp = v := rfl
@[simp] theorem setSp_cpu_pc (s : State) (v : Word) : (setSp s v).cpu.pc = s.cpu.pc := rfl
@[simp] theorem setSp_cpu_ime (s : State) (v : Word) : (setSp s v).cpu.ime = s.cpu.ime := rfl
@[simp] theorem setSp_cpu_eiPending (s : State) (v : Word) : (setSp s v).cpu.eiPending = s.cpu.eiPending := rfl
@[simp] theorem setSp_cpu_halted (s : State) (v : Word) : (setSp s v).cpu.halted = s.cpu.halted := rfl
@[simp] theorem setSp_cpu_haltBug (s : State) (v : Word) : (setSp s v).cpu.haltBug = s.cpu.haltBug := rfl
@[simp] theorem setSp_cpu_stopped (s : State) (v : Word) : (setSp s v).cpu.stopped = s.cpu.stopped := rfl
@[simp] theorem setSp_cpu_doubleSpeed (s : State) (v : Word) : (setSp s v).cpu.doubleSpeed = s.cpu.doubleSpeed := rfl
@[simp] theorem setSp_cpu_fault (s : State) (v : Word) : (setSp s v).cpu.fault = s.cpu.fault := rfl
@[simp] theorem setSp_cpu_cycleCount (s : State) (v : Word) : (setSp s v).cpu.cycleCount = s.cpu.cycleCount := rfl

@[simp] theorem popSp_cpu_a (s : State) : (popSp s).cpu.a = s.cpu.a := rfl
@[simp] theorem popSp_cpu_b (s : State) : (popSp s).cpu.b = s.cpu.b := rfl
@[simp] theorem popSp_cpu_c (s : State) : (popSp s).cpu.c = s.cpu.c := rfl
@[simp] theorem popSp_cpu_d (s : State) : (popSp s).cpu.d = s.cpu.d := rfl
@[simp] theorem popSp_cpu_e (s : State) : (popSp s).cpu.e = s.cpu.e := rfl
@[simp] theorem popSp_cpu_h (s : State) : (popSp s).cpu.h = s.cpu.h := rfl
@[simp] theorem popSp_cpu_l (s : State) : (popSp s).cpu.l = s.cpu.l := rfl
@[simp] theorem popSp_cpu_flags (s : State) : (popSp s).cpu.flags = s.cpu.flags := rfl
@[simp] theorem popSp_cpu_sp (s : State) : (popSp s).cpu.sp = s.cpu.sp + 2 := rfl
@[simp] theorem popSp_cpu_pc (s : State) : (popSp s).cpu.pc = s.cpu.pc := rfl
@[simp] theorem popSp_cpu_ime (s : State) : (popSp s).cpu.ime = s.cpu.ime := rfl
@[simp] theorem popSp_cpu_eiPending (s : State) : (popSp s).cpu.eiPending = s.cpu.eiPending := rfl
@[simp] theorem popSp_cpu_halted (s : State) : (popSp s).cpu.halted = s.cpu.halted := rfl
@[simp] theorem popSp_cpu_haltBug (s : State) : (popSp s).cpu.haltBug = s.cpu.haltBug := rfl
@[simp] theorem popSp_cpu_stopped (s : State) : (popSp s).cpu.stopped = s.cpu.stopped := rfl
@[simp] theorem popSp_cpu_doubleSpeed (s : State) : (popSp s).cpu.doubleSpeed = s.cpu.doubleSpeed := rfl
@[simp] theorem popSp_cpu_fault (s : State) : (popSp s).cpu.fault = s.cpu.fault := rfl
@[simp] theorem popSp_cpu_cycleCount (s : State) : (popSp s).cpu.cycleCount = s.cpu.cycleCount := rfl

@[simp] theorem popPc_cpu_a (s : State) : (popPc s).cpu.a = s.cpu.a := by simp [popPc]
@[simp] theorem popPc_cpu_b (s : State) : (popPc s).cpu.b = s.cpu.b := by simp [popPc]
@[simp] theorem popPc_cpu_c (s : State) : (popPc s).cpu.c = s.cpu.c := by simp [popPc]
@[simp] theorem popPc_cpu_d (s : State) : (popPc s).cpu.d = s.cpu.d := by simp [popPc]
@[simp] theorem popPc_cpu_e (s : State) : (popPc s).cpu.e = s.cpu.e := by simp [popPc]
@[simp] theorem popPc_cpu_h (s : State) : (popPc s).cpu.h = s.cpu.h := by simp [popPc]
@[simp] theorem popPc_cpu_l (s : State) : (popPc s).cpu.l = s.cpu.l := by simp [popPc]
@[simp] theorem popPc_cpu_flags (s : State) : (popPc s).cpu.flags = s.cpu.flags := by simp [popPc]
@[simp] theorem popPc_cpu_sp (s : State) : (popPc s).cpu.sp = s.cpu.sp + 2 := by simp [popPc]
@[simp] theorem popPc_cpu_pc (s : State) : (popPc s).cpu.pc = popped s := by simp [popPc]
@[simp] theorem popPc_cpu_ime (s : State) : (popPc s).cpu.ime = s.cpu.ime := by simp [popPc]
@[simp] theorem popPc_cpu_eiPending (s : State) : (popPc s).cpu.eiPending = s.cpu.eiPending := by simp [popPc]
@[simp] theorem popPc_cpu_halted (s : State) : (popPc s).cpu.halted = s.cpu.halted := by simp [popPc]
@[simp] theorem popPc_cpu_haltBug (s : State) : (popPc s).cpu.haltBug = s.cpu.haltBug := by simp [popPc]
@[simp] theorem popPc_cpu_stopped (s : State) : (popPc s).cpu.stopped = s.cpu.stopped := by simp [popPc]
@[simp] theorem popPc_cpu_doubleSpeed (s : State) : (popPc s).cpu.doubleSpeed = s.cpu.doubleSpeed := by simp [popPc]
@[simp] theorem popPc_cpu_fault (s : State) : (popPc s).cpu.fault = s.cpu.fault := by simp [popPc]
@[simp] theorem popPc_cpu_cycleCount (s : State) : (popPc s).cpu.cycleCount = s.cpu.cycleCount := by simp [popPc]

@[simp] theorem acknowledge_cpu_a (s : State) (i : Nat) : (acknowledge s i).cpu.a = s.cpu.a := rfl
@[simp] theorem acknowledge_cpu_b (s : State) (i : Nat) : (acknowledge s i).cpu.b = s.cpu.b := rfl
@[simp] theorem acknowledge_cpu_c (s : State) (i : Nat) : (acknowledge s i).cpu.c = s.cpu.c := rfl
@[simp] theorem acknowledge_cpu_d (s : State) (i : Nat) : (acknowledge s i).cpu.d = s.cpu.d := rfl
@[simp] theorem acknowledge_cpu_e (s : State) (i : Nat) : (acknowledge s i).cpu.e = s.cpu.e := rfl
@[simp] theorem acknowledge_cpu_h (s : State) (i : Nat) : (acknowledge s i).cpu.h = s.cpu.h := rfl
@[simp] theorem acknowledge_cpu_l (s : State) (i : Nat) : (acknowledge s i).cpu.l = s.cpu.l := rfl
@[simp] theorem acknowledge_cpu_flags (s : State) (i : Nat) : (acknowledge s i).cpu.flags = s.cpu.flags := rfl
@[simp] theorem acknowledge_cpu_sp (s : State) (i : Nat) : (acknowledge s i).cpu.sp = s.cpu.sp := rfl
@[simp] theorem acknowledge_cpu_pc (s : State) (i : Nat) : (acknowledge s i).cpu.pc = s.cpu.pc := rfl
@[simp] theorem acknowledge_cpu_ime (s : State) (i : Nat) : (acknowledge s i).cpu.ime = false := rfl
@[simp] theorem acknowledge_cpu_eiPending (s : State) (i : Nat) : (acknowledge s i).cpu.eiPending = false := rfl
@[simp] theorem acknowledge_cpu_halted (s : State) (i : Nat) : (acknowledge s i).cpu.halted = false := rfl
@[simp] theorem acknowledge_cpu_haltBug (s : State) (i : Nat) : (acknowledge s i).cpu.haltBug = false := rfl
@[simp] theorem acknowledge_cpu_stopped (s : State) (i : Nat) : (acknowledge s i).cpu.stopped = s.cpu.stopped := rfl
@[simp] theorem acknowledge_cpu_doubleSpeed (s : State) (i : Nat)
    : (acknowledge s i).cpu.doubleSpeed = s.cpu.doubleSpeed :=
  rfl
@[simp] theorem acknowledge_cpu_fault (s : State) (i : Nat) : (acknowledge s i).cpu.fault = s.cpu.fault := rfl
@[simp] theorem acknowledge_cpu_cycleCount (s : State) (i : Nat)
    : (acknowledge s i).cpu.cycleCount = s.cpu.cycleCount :=
  rfl

@[simp] theorem returnFromInterrupt_cpu_a (s : State)
    : (returnFromInterrupt s).cpu.a = s.cpu.a :=
  by simp [returnFromInterrupt]
@[simp] theorem returnFromInterrupt_cpu_b (s : State)
    : (returnFromInterrupt s).cpu.b = s.cpu.b :=
  by simp [returnFromInterrupt]
@[simp] theorem returnFromInterrupt_cpu_c (s : State)
    : (returnFromInterrupt s).cpu.c = s.cpu.c :=
  by simp [returnFromInterrupt]
@[simp] theorem returnFromInterrupt_cpu_d (s : State)
    : (returnFromInterrupt s).cpu.d = s.cpu.d :=
  by simp [returnFromInterrupt]
@[simp] theorem returnFromInterrupt_cpu_e (s : State)
    : (returnFromInterrupt s).cpu.e = s.cpu.e :=
  by simp [returnFromInterrupt]
@[simp] theorem returnFromInterrupt_cpu_h (s : State)
    : (returnFromInterrupt s).cpu.h = s.cpu.h :=
  by simp [returnFromInterrupt]
@[simp] theorem returnFromInterrupt_cpu_l (s : State)
    : (returnFromInterrupt s).cpu.l = s.cpu.l :=
  by simp [returnFromInterrupt]
@[simp] theorem returnFromInterrupt_cpu_flags (s : State)
    : (returnFromInterrupt s).cpu.flags = s.cpu.flags :=
  by simp [returnFromInterrupt]
@[simp] theorem returnFromInterrupt_cpu_sp (s : State)
    : (returnFromInterrupt s).cpu.sp = s.cpu.sp + 2 :=
  by simp [returnFromInterrupt]
@[simp] theorem returnFromInterrupt_cpu_pc (s : State)
    : (returnFromInterrupt s).cpu.pc = popped s :=
  by simp [returnFromInterrupt]
@[simp] theorem returnFromInterrupt_cpu_ime (s : State)
    : (returnFromInterrupt s).cpu.ime = true :=
  by simp [returnFromInterrupt]
@[simp] theorem returnFromInterrupt_cpu_eiPending (s : State)
    : (returnFromInterrupt s).cpu.eiPending = false :=
  by simp [returnFromInterrupt]
@[simp] theorem returnFromInterrupt_cpu_halted (s : State)
    : (returnFromInterrupt s).cpu.halted = s.cpu.halted :=
  by simp [returnFromInterrupt]
@[simp] theorem returnFromInterrupt_cpu_haltBug (s : State)
    : (returnFromInterrupt s).cpu.haltBug = s.cpu.haltBug :=
  by simp [returnFromInterrupt]
@[simp] theorem returnFromInterrupt_cpu_stopped (s : State)
    : (returnFromInterrupt s).cpu.stopped = s.cpu.stopped :=
  by simp [returnFromInterrupt]
@[simp] theorem returnFromInterrupt_cpu_doubleSpeed (s : State)
    : (returnFromInterrupt s).cpu.doubleSpeed = s.cpu.doubleSpeed :=
  by simp [returnFromInterrupt]
@[simp] theorem returnFromInterrupt_cpu_fault (s : State)
    : (returnFromInterrupt s).cpu.fault = s.cpu.fault :=
  by simp [returnFromInterrupt]
@[simp] theorem returnFromInterrupt_cpu_cycleCount (s : State)
    : (returnFromInterrupt s).cpu.cycleCount = s.cpu.cycleCount :=
  by simp [returnFromInterrupt]

@[simp] theorem writeReg_cpu_flags (s : State) (r : Reg8) (v : Byte)
    : (writeReg s r v).cpu.flags = s.cpu.flags :=
  by cases r <;> rfl
@[simp] theorem writeReg_cpu_sp (s : State) (r : Reg8) (v : Byte)
    : (writeReg s r v).cpu.sp = s.cpu.sp :=
  by cases r <;> rfl
@[simp] theorem writeReg_cpu_pc (s : State) (r : Reg8) (v : Byte)
    : (writeReg s r v).cpu.pc = s.cpu.pc :=
  by cases r <;> rfl
@[simp] theorem writeReg_cpu_ime (s : State) (r : Reg8) (v : Byte)
    : (writeReg s r v).cpu.ime = s.cpu.ime :=
  by cases r <;> rfl
@[simp] theorem writeReg_cpu_eiPending (s : State) (r : Reg8) (v : Byte)
    : (writeReg s r v).cpu.eiPending = s.cpu.eiPending :=
  by cases r <;> rfl
@[simp] theorem writeReg_cpu_halted (s : State) (r : Reg8) (v : Byte)
    : (writeReg s r v).cpu.halted = s.cpu.halted :=
  by cases r <;> rfl
@[simp] theorem writeReg_cpu_haltBug (s : State) (r : Reg8) (v : Byte)
    : (writeReg s r v).cpu.haltBug = s.cpu.haltBug :=
  by cases r <;> rfl
@[simp] theorem writeReg_cpu_stopped (s : State) (r : Reg8) (v : Byte)
    : (writeReg s r v).cpu.stopped = s.cpu.stopped :=
  by cases r <;> rfl
@[simp] theorem writeReg_cpu_doubleSpeed (s : State) (r : Reg8) (v : Byte)
    : (writeReg s r v).cpu.doubleSpeed = s.cpu.doubleSpeed :=
  by cases r <;> rfl
@[simp] theorem writeReg_cpu_fault (s : State) (r : Reg8) (v : Byte)
    : (writeReg s r v).cpu.fault = s.cpu.fault :=
  by cases r <;> rfl
@[simp] theorem writeReg_cpu_cycleCount (s : State) (r : Reg8) (v : Byte)
    : (writeReg s r v).cpu.cycleCount = s.cpu.cycleCount :=
  by cases r <;> rfl

@[simp] theorem writePair_cpu_flags (s : State) (p : Pair) (v : Word)
    : (writePair s p v).cpu.flags = s.cpu.flags :=
  by cases p <;> rfl
@[simp] theorem writePair_cpu_pc (s : State) (p : Pair) (v : Word)
    : (writePair s p v).cpu.pc = s.cpu.pc :=
  by cases p <;> rfl
@[simp] theorem writePair_cpu_ime (s : State) (p : Pair) (v : Word)
    : (writePair s p v).cpu.ime = s.cpu.ime :=
  by cases p <;> rfl
@[simp] theorem writePair_cpu_eiPending (s : State) (p : Pair) (v : Word)
    : (writePair s p v).cpu.eiPending = s.cpu.eiPending :=
  by cases p <;> rfl
@[simp] theorem writePair_cpu_halted (s : State) (p : Pair) (v : Word)
    : (writePair s p v).cpu.halted = s.cpu.halted :=
  by cases p <;> rfl
@[simp] theorem writePair_cpu_haltBug (s : State) (p : Pair) (v : Word)
    : (writePair s p v).cpu.haltBug = s.cpu.haltBug :=
  by cases p <;> rfl
@[simp] theorem writePair_cpu_stopped (s : State) (p : Pair) (v : Word)
    : (writePair s p v).cpu.stopped = s.cpu.stopped :=
  by cases p <;> rfl
@[simp] theorem writePair_cpu_doubleSpeed (s : State) (p : Pair) (v : Word)
    : (writePair s p v).cpu.doubleSpeed = s.cpu.doubleSpeed :=
  by cases p <;> rfl
@[simp] theorem writePair_cpu_fault (s : State) (p : Pair) (v : Word)
    : (writePair s p v).cpu.fault = s.cpu.fault :=
  by cases p <;> rfl
@[simp] theorem writePair_cpu_cycleCount (s : State) (p : Pair) (v : Word)
    : (writePair s p v).cpu.cycleCount = s.cpu.cycleCount :=
  by cases p <;> rfl

@[simp] theorem writeStackPair_cpu_sp (s : State) (p : StackPair) (v : Word)
    : (writeStackPair s p v).cpu.sp = s.cpu.sp :=
  by cases p <;> rfl
@[simp] theorem writeStackPair_cpu_pc (s : State) (p : StackPair) (v : Word)
    : (writeStackPair s p v).cpu.pc = s.cpu.pc :=
  by cases p <;> rfl
@[simp] theorem writeStackPair_cpu_ime (s : State) (p : StackPair) (v : Word)
    : (writeStackPair s p v).cpu.ime = s.cpu.ime :=
  by cases p <;> rfl
@[simp] theorem writeStackPair_cpu_eiPending (s : State) (p : StackPair) (v : Word)
    : (writeStackPair s p v).cpu.eiPending = s.cpu.eiPending :=
  by cases p <;> rfl
@[simp] theorem writeStackPair_cpu_halted (s : State) (p : StackPair) (v : Word)
    : (writeStackPair s p v).cpu.halted = s.cpu.halted :=
  by cases p <;> rfl
@[simp] theorem writeStackPair_cpu_haltBug (s : State) (p : StackPair) (v : Word)
    : (writeStackPair s p v).cpu.haltBug = s.cpu.haltBug :=
  by cases p <;> rfl
@[simp] theorem writeStackPair_cpu_stopped (s : State) (p : StackPair) (v : Word)
    : (writeStackPair s p v).cpu.stopped = s.cpu.stopped :=
  by cases p <;> rfl
@[simp] theorem writeStackPair_cpu_doubleSpeed (s : State) (p : StackPair) (v : Word)
    : (writeStackPair s p v).cpu.doubleSpeed = s.cpu.doubleSpeed :=
  by cases p <;> rfl
@[simp] theorem writeStackPair_cpu_fault (s : State) (p : StackPair) (v : Word)
    : (writeStackPair s p v).cpu.fault = s.cpu.fault :=
  by cases p <;> rfl
@[simp] theorem writeStackPair_cpu_cycleCount (s : State) (p : StackPair) (v : Word)
    : (writeStackPair s p v).cpu.cycleCount = s.cpu.cycleCount :=
  by cases p <;> rfl

/-- A register holds what was written to it. -/
theorem readReg_writeReg_same (s : State) (r : Reg8) (v : Byte) : readReg (writeReg s r v) r = v := by cases r <;> rfl

/-- A write to one register leaves the others. -/
theorem readReg_writeReg_other (s : State) (r q : Reg8) (v : Byte) (h : q ≠ r) :
    readReg (writeReg s r v) q = readReg s q := by
  cases r <;> cases q <;> first | rfl | exact absurd rfl h

/-- A register read after a register write, both cases at once. -/
@[simp] theorem readReg_writeReg (s : State) (r q : Reg8) (v : Byte) :
    readReg (writeReg s r v) q = if q = r then v else readReg s q := by
  cases r <;> cases q <;> rfl

/-- Registers do not depend on anything but the CPU. -/
theorem readReg_congr {s t : State} (h : t.cpu = s.cpu) (r : Reg8) : readReg t r = readReg s r := by
  cases r <;> simp [readReg, h]

@[simp] theorem readReg_setFlags (s : State) (f : Flags) (r : Reg8) : readReg (setFlags s f) r = readReg s r := by
  cases r <;> rfl

@[simp] theorem readReg_setPc (s : State) (t : Word) (r : Reg8) : readReg (setPc s t) r = readReg s r := by
  cases r <;> rfl

@[simp] theorem readReg_setSp (s : State) (v : Word) (r : Reg8) : readReg (setSp s v) r = readReg s r := by
  cases r <;> rfl

@[simp] theorem readReg_spend (s : State) (n : Nat) (r : Reg8) : readReg (spend s n) r = readReg s r := by
  cases r <;> rfl

/-- The two halves of a 16-bit value make it again (R8). -/
@[simp] theorem joinBytes_hi_lo (v : Word) : joinBytes (hiByte v) (loByte v) = v := by
  unfold joinBytes hiByte loByte
  ext i hi
  simp
  grind

@[simp] theorem hiByte_joinBytes (h l : Byte) : hiByte (joinBytes h l) = h := by
  unfold joinBytes hiByte
  ext i hi
  simp only [BitVec.getElem_extractLsb']
  exact (BitVec.getLsbD_append (x := h) (y := l) (i := 8 + i)).trans (by simp [hi, BitVec.getLsbD_eq_getElem])

@[simp] theorem loByte_joinBytes (h l : Byte) : loByte (joinBytes h l) = l := by
  unfold joinBytes loByte
  ext i hi
  simp only [BitVec.getElem_extractLsb']
  exact (BitVec.getLsbD_append (x := h) (y := l) (i := 0 + i)).trans (by simp [hi, BitVec.getLsbD_eq_getElem])

/-- A pair holds what was written to it (R31). -/
@[simp] theorem readPair_writePair_same (s : State) (p : Pair) (v : Word) : readPair (writePair s p v) p = v := by
  cases p <;> simp [readPair, writePair]

/-- The flag byte has bits 3:0 clear, and reading it back gives the flags (R32). -/
@[simp] theorem flagsOfByte_flagsByte (f : Flags) : flagsOfByte (flagsByte f) = f := by
  cases f with
  | mk z n h c => cases z <;> cases n <;> cases h <;> cases c <;> rfl

theorem flagsByte_low (f : Flags) : flagsByte f &&& 0x0F = 0 := by
  cases f with
  | mk z n h c => cases z <;> cases n <;> cases h <;> cases c <;> rfl

@[simp] theorem spend_cost (s : State) (n : Nat) : (spend s n).cost = s.cost + n := rfl

@[simp] theorem fetch8_fst (s : State) : (fetch8 s).1 = memRead s s.cpu.pc := rfl

end Sys2Proof.Machine
end

