-- ==== Sys2Proof/Laws/Touches.lean ====
section
/-! SUPPORT. What the operations over memory and devices leave unchanged: for each, one lemma per part of the state it
does not touch. The parts a lemma is missing for are the parts the operation may write. -/

namespace Sys2Proof.Machine

@[simp] theorem timaIncrement_params (s : State) :
    (timaIncrement s).params = s.params := by unfold timaIncrement; (repeat' split) <;> simp
@[simp] theorem timaIncrement_cart (s : State) :
    (timaIncrement s).cart = s.cart := by unfold timaIncrement; (repeat' split) <;> simp
@[simp] theorem timaIncrement_mem (s : State) :
    (timaIncrement s).mem = s.mem := by unfold timaIncrement; (repeat' split) <;> simp
@[simp] theorem timaIncrement_cpu (s : State) :
    (timaIncrement s).cpu = s.cpu := by unfold timaIncrement; (repeat' split) <;> simp
@[simp] theorem timaIncrement_mbc (s : State) :
    (timaIncrement s).mbc = s.mbc := by unfold timaIncrement; (repeat' split) <;> simp
@[simp] theorem timaIncrement_rtc (s : State) :
    (timaIncrement s).rtc = s.rtc := by unfold timaIncrement; (repeat' split) <;> simp
@[simp] theorem timaIncrement_serial (s : State) :
    (timaIncrement s).serial = s.serial := by unfold timaIncrement; (repeat' split) <;> simp
@[simp] theorem timaIncrement_joypad (s : State) :
    (timaIncrement s).joypad = s.joypad := by unfold timaIncrement; (repeat' split) <;> simp
@[simp] theorem timaIncrement_sel (s : State) :
    (timaIncrement s).sel = s.sel := by unfold timaIncrement; (repeat' split) <;> simp
@[simp] theorem timaIncrement_hdma (s : State) :
    (timaIncrement s).hdma = s.hdma := by unfold timaIncrement; (repeat' split) <;> simp
@[simp] theorem timaIncrement_ppu (s : State) :
    (timaIncrement s).ppu = s.ppu := by unfold timaIncrement; (repeat' split) <;> simp
@[simp] theorem timaIncrement_apu (s : State) :
    (timaIncrement s).apu = s.apu := by unfold timaIncrement; (repeat' split) <;> simp
@[simp] theorem timaIncrement_cost (s : State) :
    (timaIncrement s).cost = s.cost := by unfold timaIncrement; (repeat' split) <;> simp
@[simp] theorem timaIncrement_freeCount (s : State) :
    (timaIncrement s).freeCount = s.freeCount := by unfold timaIncrement; (repeat' split) <;> simp
@[simp] theorem timaIncrement_callbacks (s : State) :
    (timaIncrement s).callbacks = s.callbacks := by unfold timaIncrement; (repeat' split) <;> simp

@[simp] theorem timerEdgeCheck_params (s : State) :
    (timerEdgeCheck s).params = s.params := by simp only [timerEdgeCheck]; split <;> simp
@[simp] theorem timerEdgeCheck_cart (s : State) :
    (timerEdgeCheck s).cart = s.cart := by simp only [timerEdgeCheck]; split <;> simp
@[simp] theorem timerEdgeCheck_mem (s : State) :
    (timerEdgeCheck s).mem = s.mem := by simp only [timerEdgeCheck]; split <;> simp
@[simp] theorem timerEdgeCheck_cpu (s : State) :
    (timerEdgeCheck s).cpu = s.cpu := by simp only [timerEdgeCheck]; split <;> simp
@[simp] theorem timerEdgeCheck_mbc (s : State) :
    (timerEdgeCheck s).mbc = s.mbc := by simp only [timerEdgeCheck]; split <;> simp
@[simp] theorem timerEdgeCheck_rtc (s : State) :
    (timerEdgeCheck s).rtc = s.rtc := by simp only [timerEdgeCheck]; split <;> simp
@[simp] theorem timerEdgeCheck_serial (s : State) :
    (timerEdgeCheck s).serial = s.serial := by simp only [timerEdgeCheck]; split <;> simp
@[simp] theorem timerEdgeCheck_joypad (s : State) :
    (timerEdgeCheck s).joypad = s.joypad := by simp only [timerEdgeCheck]; split <;> simp
@[simp] theorem timerEdgeCheck_sel (s : State) :
    (timerEdgeCheck s).sel = s.sel := by simp only [timerEdgeCheck]; split <;> simp
@[simp] theorem timerEdgeCheck_hdma (s : State) :
    (timerEdgeCheck s).hdma = s.hdma := by simp only [timerEdgeCheck]; split <;> simp
@[simp] theorem timerEdgeCheck_ppu (s : State) :
    (timerEdgeCheck s).ppu = s.ppu := by simp only [timerEdgeCheck]; split <;> simp
@[simp] theorem timerEdgeCheck_apu (s : State) :
    (timerEdgeCheck s).apu = s.apu := by simp only [timerEdgeCheck]; split <;> simp
@[simp] theorem timerEdgeCheck_cost (s : State) :
    (timerEdgeCheck s).cost = s.cost := by simp only [timerEdgeCheck]; split <;> simp
@[simp] theorem timerEdgeCheck_freeCount (s : State) :
    (timerEdgeCheck s).freeCount = s.freeCount := by simp only [timerEdgeCheck]; split <;> simp
@[simp] theorem timerEdgeCheck_callbacks (s : State) :
    (timerEdgeCheck s).callbacks = s.callbacks := by simp only [timerEdgeCheck]; split <;> simp

@[simp] theorem setDivider_params (s : State) (v : BitVec 16) :
    (setDivider s v).params = s.params := by simp [setDivider]
@[simp] theorem setDivider_cart (s : State) (v : BitVec 16) : (setDivider s v).cart = s.cart := by simp [setDivider]
@[simp] theorem setDivider_mem (s : State) (v : BitVec 16) : (setDivider s v).mem = s.mem := by simp [setDivider]
@[simp] theorem setDivider_cpu (s : State) (v : BitVec 16) : (setDivider s v).cpu = s.cpu := by simp [setDivider]
@[simp] theorem setDivider_mbc (s : State) (v : BitVec 16) : (setDivider s v).mbc = s.mbc := by simp [setDivider]
@[simp] theorem setDivider_rtc (s : State) (v : BitVec 16) : (setDivider s v).rtc = s.rtc := by simp [setDivider]
@[simp] theorem setDivider_serial (s : State) (v : BitVec 16) :
    (setDivider s v).serial = s.serial := by simp [setDivider]
@[simp] theorem setDivider_joypad (s : State) (v : BitVec 16) :
    (setDivider s v).joypad = s.joypad := by simp [setDivider]
@[simp] theorem setDivider_sel (s : State) (v : BitVec 16) : (setDivider s v).sel = s.sel := by simp [setDivider]
@[simp] theorem setDivider_hdma (s : State) (v : BitVec 16) : (setDivider s v).hdma = s.hdma := by simp [setDivider]
@[simp] theorem setDivider_ppu (s : State) (v : BitVec 16) : (setDivider s v).ppu = s.ppu := by simp [setDivider]
@[simp] theorem setDivider_apu (s : State) (v : BitVec 16) : (setDivider s v).apu = s.apu := by simp [setDivider]
@[simp] theorem setDivider_cost (s : State) (v : BitVec 16) : (setDivider s v).cost = s.cost := by simp [setDivider]
@[simp] theorem setDivider_freeCount (s : State) (v : BitVec 16) :
    (setDivider s v).freeCount = s.freeCount := by simp [setDivider]
@[simp] theorem setDivider_callbacks (s : State) (v : BitVec 16) :
    (setDivider s v).callbacks = s.callbacks := by simp [setDivider]

@[simp] theorem timerTick_params (s : State) : (timerTick s).params = s.params := by simp [timerTick]
@[simp] theorem timerTick_cart (s : State) : (timerTick s).cart = s.cart := by simp [timerTick]
@[simp] theorem timerTick_mem (s : State) : (timerTick s).mem = s.mem := by simp [timerTick]
@[simp] theorem timerTick_cpu (s : State) : (timerTick s).cpu = s.cpu := by simp [timerTick]
@[simp] theorem timerTick_mbc (s : State) : (timerTick s).mbc = s.mbc := by simp [timerTick]
@[simp] theorem timerTick_rtc (s : State) : (timerTick s).rtc = s.rtc := by simp [timerTick]
@[simp] theorem timerTick_serial (s : State) : (timerTick s).serial = s.serial := by simp [timerTick]
@[simp] theorem timerTick_joypad (s : State) : (timerTick s).joypad = s.joypad := by simp [timerTick]
@[simp] theorem timerTick_sel (s : State) : (timerTick s).sel = s.sel := by simp [timerTick]
@[simp] theorem timerTick_hdma (s : State) : (timerTick s).hdma = s.hdma := by simp [timerTick]
@[simp] theorem timerTick_ppu (s : State) : (timerTick s).ppu = s.ppu := by simp [timerTick]
@[simp] theorem timerTick_apu (s : State) : (timerTick s).apu = s.apu := by simp [timerTick]
@[simp] theorem timerTick_cost (s : State) : (timerTick s).cost = s.cost := by simp [timerTick]
@[simp] theorem timerTick_freeCount (s : State) : (timerTick s).freeCount = s.freeCount := by simp [timerTick]
@[simp] theorem timerTick_callbacks (s : State) : (timerTick s).callbacks = s.callbacks := by simp [timerTick]

@[simp] theorem tacWrite_params (s : State) (v : Byte) : (tacWrite s v).params = s.params := by simp [tacWrite]
@[simp] theorem tacWrite_cart (s : State) (v : Byte) : (tacWrite s v).cart = s.cart := by simp [tacWrite]
@[simp] theorem tacWrite_mem (s : State) (v : Byte) : (tacWrite s v).mem = s.mem := by simp [tacWrite]
@[simp] theorem tacWrite_cpu (s : State) (v : Byte) : (tacWrite s v).cpu = s.cpu := by simp [tacWrite]
@[simp] theorem tacWrite_mbc (s : State) (v : Byte) : (tacWrite s v).mbc = s.mbc := by simp [tacWrite]
@[simp] theorem tacWrite_rtc (s : State) (v : Byte) : (tacWrite s v).rtc = s.rtc := by simp [tacWrite]
@[simp] theorem tacWrite_serial (s : State) (v : Byte) : (tacWrite s v).serial = s.serial := by simp [tacWrite]
@[simp] theorem tacWrite_joypad (s : State) (v : Byte) : (tacWrite s v).joypad = s.joypad := by simp [tacWrite]
@[simp] theorem tacWrite_sel (s : State) (v : Byte) : (tacWrite s v).sel = s.sel := by simp [tacWrite]
@[simp] theorem tacWrite_hdma (s : State) (v : Byte) : (tacWrite s v).hdma = s.hdma := by simp [tacWrite]
@[simp] theorem tacWrite_ppu (s : State) (v : Byte) : (tacWrite s v).ppu = s.ppu := by simp [tacWrite]
@[simp] theorem tacWrite_apu (s : State) (v : Byte) : (tacWrite s v).apu = s.apu := by simp [tacWrite]
@[simp] theorem tacWrite_cost (s : State) (v : Byte) : (tacWrite s v).cost = s.cost := by simp [tacWrite]
@[simp] theorem tacWrite_freeCount (s : State) (v : Byte) :
    (tacWrite s v).freeCount = s.freeCount := by simp [tacWrite]
@[simp] theorem tacWrite_callbacks (s : State) (v : Byte) :
    (tacWrite s v).callbacks = s.callbacks := by simp [tacWrite]

@[simp] theorem joypadCheck_params (s : State) :
    (joypadCheck s).params = s.params := by simp only [joypadCheck]; split <;> simp
@[simp] theorem joypadCheck_cart (s : State) :
    (joypadCheck s).cart = s.cart := by simp only [joypadCheck]; split <;> simp
@[simp] theorem joypadCheck_mem (s : State) :
    (joypadCheck s).mem = s.mem := by simp only [joypadCheck]; split <;> simp
@[simp] theorem joypadCheck_cpu (s : State) :
    (joypadCheck s).cpu = s.cpu := by simp only [joypadCheck]; split <;> simp
@[simp] theorem joypadCheck_mbc (s : State) :
    (joypadCheck s).mbc = s.mbc := by simp only [joypadCheck]; split <;> simp
@[simp] theorem joypadCheck_rtc (s : State) :
    (joypadCheck s).rtc = s.rtc := by simp only [joypadCheck]; split <;> simp
@[simp] theorem joypadCheck_timer (s : State) :
    (joypadCheck s).timer = s.timer := by simp only [joypadCheck]; split <;> simp
@[simp] theorem joypadCheck_serial (s : State) :
    (joypadCheck s).serial = s.serial := by simp only [joypadCheck]; split <;> simp
@[simp] theorem joypadCheck_sel (s : State) :
    (joypadCheck s).sel = s.sel := by simp only [joypadCheck]; split <;> simp
@[simp] theorem joypadCheck_hdma (s : State) :
    (joypadCheck s).hdma = s.hdma := by simp only [joypadCheck]; split <;> simp
@[simp] theorem joypadCheck_ppu (s : State) :
    (joypadCheck s).ppu = s.ppu := by simp only [joypadCheck]; split <;> simp
@[simp] theorem joypadCheck_apu (s : State) :
    (joypadCheck s).apu = s.apu := by simp only [joypadCheck]; split <;> simp
@[simp] theorem joypadCheck_cost (s : State) :
    (joypadCheck s).cost = s.cost := by simp only [joypadCheck]; split <;> simp
@[simp] theorem joypadCheck_freeCount (s : State) :
    (joypadCheck s).freeCount = s.freeCount := by simp only [joypadCheck]; split <;> simp
@[simp] theorem joypadCheck_callbacks (s : State) :
    (joypadCheck s).callbacks = s.callbacks := by simp only [joypadCheck]; split <;> simp

@[simp] theorem p1Write_params (s : State) (v : Byte) : (p1Write s v).params = s.params := by simp [p1Write]
@[simp] theorem p1Write_cart (s : State) (v : Byte) : (p1Write s v).cart = s.cart := by simp [p1Write]
@[simp] theorem p1Write_mem (s : State) (v : Byte) : (p1Write s v).mem = s.mem := by simp [p1Write]
@[simp] theorem p1Write_cpu (s : State) (v : Byte) : (p1Write s v).cpu = s.cpu := by simp [p1Write]
@[simp] theorem p1Write_mbc (s : State) (v : Byte) : (p1Write s v).mbc = s.mbc := by simp [p1Write]
@[simp] theorem p1Write_rtc (s : State) (v : Byte) : (p1Write s v).rtc = s.rtc := by simp [p1Write]
@[simp] theorem p1Write_timer (s : State) (v : Byte) : (p1Write s v).timer = s.timer := by simp [p1Write]
@[simp] theorem p1Write_serial (s : State) (v : Byte) : (p1Write s v).serial = s.serial := by simp [p1Write]
@[simp] theorem p1Write_sel (s : State) (v : Byte) : (p1Write s v).sel = s.sel := by simp [p1Write]
@[simp] theorem p1Write_hdma (s : State) (v : Byte) : (p1Write s v).hdma = s.hdma := by simp [p1Write]
@[simp] theorem p1Write_ppu (s : State) (v : Byte) : (p1Write s v).ppu = s.ppu := by simp [p1Write]
@[simp] theorem p1Write_apu (s : State) (v : Byte) : (p1Write s v).apu = s.apu := by simp [p1Write]
@[simp] theorem p1Write_cost (s : State) (v : Byte) : (p1Write s v).cost = s.cost := by simp [p1Write]
@[simp] theorem p1Write_freeCount (s : State) (v : Byte) : (p1Write s v).freeCount = s.freeCount := by simp [p1Write]
@[simp] theorem p1Write_callbacks (s : State) (v : Byte) : (p1Write s v).callbacks = s.callbacks := by simp [p1Write]

@[simp] theorem scWrite_params (s : State) (v : Byte) :
    (scWrite s v).params = s.params := by simp only [scWrite]; (repeat' split) <;> rfl
@[simp] theorem scWrite_cart (s : State) (v : Byte) :
    (scWrite s v).cart = s.cart := by simp only [scWrite]; (repeat' split) <;> rfl
@[simp] theorem scWrite_mem (s : State) (v : Byte) :
    (scWrite s v).mem = s.mem := by simp only [scWrite]; (repeat' split) <;> rfl
@[simp] theorem scWrite_cpu (s : State) (v : Byte) :
    (scWrite s v).cpu = s.cpu := by simp only [scWrite]; (repeat' split) <;> rfl
@[simp] theorem scWrite_irq (s : State) (v : Byte) :
    (scWrite s v).irq = s.irq := by simp only [scWrite]; (repeat' split) <;> rfl
@[simp] theorem scWrite_mbc (s : State) (v : Byte) :
    (scWrite s v).mbc = s.mbc := by simp only [scWrite]; (repeat' split) <;> rfl
@[simp] theorem scWrite_rtc (s : State) (v : Byte) :
    (scWrite s v).rtc = s.rtc := by simp only [scWrite]; (repeat' split) <;> rfl
@[simp] theorem scWrite_timer (s : State) (v : Byte) :
    (scWrite s v).timer = s.timer := by simp only [scWrite]; (repeat' split) <;> rfl
@[simp] theorem scWrite_joypad (s : State) (v : Byte) :
    (scWrite s v).joypad = s.joypad := by simp only [scWrite]; (repeat' split) <;> rfl
@[simp] theorem scWrite_sel (s : State) (v : Byte) :
    (scWrite s v).sel = s.sel := by simp only [scWrite]; (repeat' split) <;> rfl
@[simp] theorem scWrite_hdma (s : State) (v : Byte) :
    (scWrite s v).hdma = s.hdma := by simp only [scWrite]; (repeat' split) <;> rfl
@[simp] theorem scWrite_ppu (s : State) (v : Byte) :
    (scWrite s v).ppu = s.ppu := by simp only [scWrite]; (repeat' split) <;> rfl
@[simp] theorem scWrite_apu (s : State) (v : Byte) :
    (scWrite s v).apu = s.apu := by simp only [scWrite]; (repeat' split) <;> rfl
@[simp] theorem scWrite_cost (s : State) (v : Byte) :
    (scWrite s v).cost = s.cost := by simp only [scWrite]; (repeat' split) <;> rfl
@[simp] theorem scWrite_freeCount (s : State) (v : Byte) :
    (scWrite s v).freeCount = s.freeCount := by simp only [scWrite]; (repeat' split) <;> rfl
@[simp] theorem scWrite_callbacks (s : State) (v : Byte) :
    (scWrite s v).callbacks = s.callbacks := by simp only [scWrite]; (repeat' split) <;> rfl

@[simp] theorem serialTick_params (s : State) :
    (serialTick s).params = s.params := by simp only [serialTick]; (repeat' split) <;> simp
@[simp] theorem serialTick_cart (s : State) :
    (serialTick s).cart = s.cart := by simp only [serialTick]; (repeat' split) <;> simp
@[simp] theorem serialTick_mem (s : State) :
    (serialTick s).mem = s.mem := by simp only [serialTick]; (repeat' split) <;> simp
@[simp] theorem serialTick_cpu (s : State) :
    (serialTick s).cpu = s.cpu := by simp only [serialTick]; (repeat' split) <;> simp
@[simp] theorem serialTick_mbc (s : State) :
    (serialTick s).mbc = s.mbc := by simp only [serialTick]; (repeat' split) <;> simp
@[simp] theorem serialTick_rtc (s : State) :
    (serialTick s).rtc = s.rtc := by simp only [serialTick]; (repeat' split) <;> simp
@[simp] theorem serialTick_timer (s : State) :
    (serialTick s).timer = s.timer := by simp only [serialTick]; (repeat' split) <;> simp
@[simp] theorem serialTick_joypad (s : State) :
    (serialTick s).joypad = s.joypad := by simp only [serialTick]; (repeat' split) <;> simp
@[simp] theorem serialTick_sel (s : State) :
    (serialTick s).sel = s.sel := by simp only [serialTick]; (repeat' split) <;> simp
@[simp] theorem serialTick_hdma (s : State) :
    (serialTick s).hdma = s.hdma := by simp only [serialTick]; (repeat' split) <;> simp
@[simp] theorem serialTick_ppu (s : State) :
    (serialTick s).ppu = s.ppu := by simp only [serialTick]; (repeat' split) <;> simp
@[simp] theorem serialTick_apu (s : State) :
    (serialTick s).apu = s.apu := by simp only [serialTick]; (repeat' split) <;> simp
@[simp] theorem serialTick_cost (s : State) :
    (serialTick s).cost = s.cost := by simp only [serialTick]; (repeat' split) <;> simp
@[simp] theorem serialTick_freeCount (s : State) :
    (serialTick s).freeCount = s.freeCount := by simp only [serialTick]; (repeat' split) <;> simp
@[simp] theorem serialTick_callbacks (s : State) :
    (serialTick s).callbacks = s.callbacks := by simp only [serialTick]; (repeat' split) <;> simp

@[simp] theorem statUpdate_params (s : State) :
    (statUpdate s).params = s.params := by simp only [statUpdate]; split <;> simp
@[simp] theorem statUpdate_cart (s : State) :
    (statUpdate s).cart = s.cart := by simp only [statUpdate]; split <;> simp
@[simp] theorem statUpdate_mem (s : State) : (statUpdate s).mem = s.mem := by simp only [statUpdate]; split <;> simp
@[simp] theorem statUpdate_cpu (s : State) : (statUpdate s).cpu = s.cpu := by simp only [statUpdate]; split <;> simp
@[simp] theorem statUpdate_mbc (s : State) : (statUpdate s).mbc = s.mbc := by simp only [statUpdate]; split <;> simp
@[simp] theorem statUpdate_rtc (s : State) : (statUpdate s).rtc = s.rtc := by simp only [statUpdate]; split <;> simp
@[simp] theorem statUpdate_timer (s : State) :
    (statUpdate s).timer = s.timer := by simp only [statUpdate]; split <;> simp
@[simp] theorem statUpdate_serial (s : State) :
    (statUpdate s).serial = s.serial := by simp only [statUpdate]; split <;> simp
@[simp] theorem statUpdate_joypad (s : State) :
    (statUpdate s).joypad = s.joypad := by simp only [statUpdate]; split <;> simp
@[simp] theorem statUpdate_sel (s : State) : (statUpdate s).sel = s.sel := by simp only [statUpdate]; split <;> simp
@[simp] theorem statUpdate_hdma (s : State) :
    (statUpdate s).hdma = s.hdma := by simp only [statUpdate]; split <;> simp
@[simp] theorem statUpdate_apu (s : State) : (statUpdate s).apu = s.apu := by simp only [statUpdate]; split <;> simp
@[simp] theorem statUpdate_cost (s : State) :
    (statUpdate s).cost = s.cost := by simp only [statUpdate]; split <;> simp
@[simp] theorem statUpdate_freeCount (s : State) :
    (statUpdate s).freeCount = s.freeCount := by simp only [statUpdate]; split <;> simp
@[simp] theorem statUpdate_callbacks (s : State) :
    (statUpdate s).callbacks = s.callbacks := by simp only [statUpdate]; split <;> simp

@[simp] theorem statWrite_params (s : State) (v : Byte) : (statWrite s v).params = s.params := by simp [statWrite]
@[simp] theorem statWrite_cart (s : State) (v : Byte) : (statWrite s v).cart = s.cart := by simp [statWrite]
@[simp] theorem statWrite_mem (s : State) (v : Byte) : (statWrite s v).mem = s.mem := by simp [statWrite]
@[simp] theorem statWrite_cpu (s : State) (v : Byte) : (statWrite s v).cpu = s.cpu := by simp [statWrite]
@[simp] theorem statWrite_mbc (s : State) (v : Byte) : (statWrite s v).mbc = s.mbc := by simp [statWrite]
@[simp] theorem statWrite_rtc (s : State) (v : Byte) : (statWrite s v).rtc = s.rtc := by simp [statWrite]
@[simp] theorem statWrite_timer (s : State) (v : Byte) : (statWrite s v).timer = s.timer := by simp [statWrite]
@[simp] theorem statWrite_serial (s : State) (v : Byte) : (statWrite s v).serial = s.serial := by simp [statWrite]
@[simp] theorem statWrite_joypad (s : State) (v : Byte) : (statWrite s v).joypad = s.joypad := by simp [statWrite]
@[simp] theorem statWrite_sel (s : State) (v : Byte) : (statWrite s v).sel = s.sel := by simp [statWrite]
@[simp] theorem statWrite_hdma (s : State) (v : Byte) : (statWrite s v).hdma = s.hdma := by simp [statWrite]
@[simp] theorem statWrite_apu (s : State) (v : Byte) : (statWrite s v).apu = s.apu := by simp [statWrite]
@[simp] theorem statWrite_cost (s : State) (v : Byte) : (statWrite s v).cost = s.cost := by simp [statWrite]
@[simp] theorem statWrite_freeCount (s : State) (v : Byte) :
    (statWrite s v).freeCount = s.freeCount := by simp [statWrite]
@[simp] theorem statWrite_callbacks (s : State) (v : Byte) :
    (statWrite s v).callbacks = s.callbacks := by simp [statWrite]

@[simp] theorem lycWrite_params (s : State) (v : Byte) : (lycWrite s v).params = s.params := by simp [lycWrite]
@[simp] theorem lycWrite_cart (s : State) (v : Byte) : (lycWrite s v).cart = s.cart := by simp [lycWrite]
@[simp] theorem lycWrite_mem (s : State) (v : Byte) : (lycWrite s v).mem = s.mem := by simp [lycWrite]
@[simp] theorem lycWrite_cpu (s : State) (v : Byte) : (lycWrite s v).cpu = s.cpu := by simp [lycWrite]
@[simp] theorem lycWrite_mbc (s : State) (v : Byte) : (lycWrite s v).mbc = s.mbc := by simp [lycWrite]
@[simp] theorem lycWrite_rtc (s : State) (v : Byte) : (lycWrite s v).rtc = s.rtc := by simp [lycWrite]
@[simp] theorem lycWrite_timer (s : State) (v : Byte) : (lycWrite s v).timer = s.timer := by simp [lycWrite]
@[simp] theorem lycWrite_serial (s : State) (v : Byte) : (lycWrite s v).serial = s.serial := by simp [lycWrite]
@[simp] theorem lycWrite_joypad (s : State) (v : Byte) : (lycWrite s v).joypad = s.joypad := by simp [lycWrite]
@[simp] theorem lycWrite_sel (s : State) (v : Byte) : (lycWrite s v).sel = s.sel := by simp [lycWrite]
@[simp] theorem lycWrite_hdma (s : State) (v : Byte) : (lycWrite s v).hdma = s.hdma := by simp [lycWrite]
@[simp] theorem lycWrite_apu (s : State) (v : Byte) : (lycWrite s v).apu = s.apu := by simp [lycWrite]
@[simp] theorem lycWrite_cost (s : State) (v : Byte) : (lycWrite s v).cost = s.cost := by simp [lycWrite]
@[simp] theorem lycWrite_freeCount (s : State) (v : Byte) :
    (lycWrite s v).freeCount = s.freeCount := by simp [lycWrite]
@[simp] theorem lycWrite_callbacks (s : State) (v : Byte) :
    (lycWrite s v).callbacks = s.callbacks := by simp [lycWrite]

@[simp] theorem lcdcWrite_params (s : State) (v : Byte) :
    (lcdcWrite s v).params = s.params := by simp only [lcdcWrite]; split <;> simp
@[simp] theorem lcdcWrite_cart (s : State) (v : Byte) :
    (lcdcWrite s v).cart = s.cart := by simp only [lcdcWrite]; split <;> simp
@[simp] theorem lcdcWrite_mem (s : State) (v : Byte) :
    (lcdcWrite s v).mem = s.mem := by simp only [lcdcWrite]; split <;> simp
@[simp] theorem lcdcWrite_cpu (s : State) (v : Byte) :
    (lcdcWrite s v).cpu = s.cpu := by simp only [lcdcWrite]; split <;> simp
@[simp] theorem lcdcWrite_mbc (s : State) (v : Byte) :
    (lcdcWrite s v).mbc = s.mbc := by simp only [lcdcWrite]; split <;> simp
@[simp] theorem lcdcWrite_rtc (s : State) (v : Byte) :
    (lcdcWrite s v).rtc = s.rtc := by simp only [lcdcWrite]; split <;> simp
@[simp] theorem lcdcWrite_timer (s : State) (v : Byte) :
    (lcdcWrite s v).timer = s.timer := by simp only [lcdcWrite]; split <;> simp
@[simp] theorem lcdcWrite_serial (s : State) (v : Byte) :
    (lcdcWrite s v).serial = s.serial := by simp only [lcdcWrite]; split <;> simp
@[simp] theorem lcdcWrite_joypad (s : State) (v : Byte) :
    (lcdcWrite s v).joypad = s.joypad := by simp only [lcdcWrite]; split <;> simp
@[simp] theorem lcdcWrite_sel (s : State) (v : Byte) :
    (lcdcWrite s v).sel = s.sel := by simp only [lcdcWrite]; split <;> simp
@[simp] theorem lcdcWrite_hdma (s : State) (v : Byte) :
    (lcdcWrite s v).hdma = s.hdma := by simp only [lcdcWrite]; split <;> simp
@[simp] theorem lcdcWrite_apu (s : State) (v : Byte) :
    (lcdcWrite s v).apu = s.apu := by simp only [lcdcWrite]; split <;> simp
@[simp] theorem lcdcWrite_cost (s : State) (v : Byte) :
    (lcdcWrite s v).cost = s.cost := by simp only [lcdcWrite]; split <;> simp
@[simp] theorem lcdcWrite_freeCount (s : State) (v : Byte) :
    (lcdcWrite s v).freeCount = s.freeCount := by simp only [lcdcWrite]; split <;> simp
@[simp] theorem lcdcWrite_callbacks (s : State) (v : Byte) :
    (lcdcWrite s v).callbacks = s.callbacks := by simp only [lcdcWrite]; split <;> simp

@[simp] theorem renderLine_params (s : State) : (renderLine s).params = s.params := by simp [renderLine]
@[simp] theorem renderLine_cart (s : State) : (renderLine s).cart = s.cart := by simp [renderLine]
@[simp] theorem renderLine_mem (s : State) : (renderLine s).mem = s.mem := by simp [renderLine]
@[simp] theorem renderLine_cpu (s : State) : (renderLine s).cpu = s.cpu := by simp [renderLine]
@[simp] theorem renderLine_irq (s : State) : (renderLine s).irq = s.irq := by simp [renderLine]
@[simp] theorem renderLine_mbc (s : State) : (renderLine s).mbc = s.mbc := by simp [renderLine]
@[simp] theorem renderLine_rtc (s : State) : (renderLine s).rtc = s.rtc := by simp [renderLine]
@[simp] theorem renderLine_timer (s : State) : (renderLine s).timer = s.timer := by simp [renderLine]
@[simp] theorem renderLine_serial (s : State) : (renderLine s).serial = s.serial := by simp [renderLine]
@[simp] theorem renderLine_joypad (s : State) : (renderLine s).joypad = s.joypad := by simp [renderLine]
@[simp] theorem renderLine_sel (s : State) : (renderLine s).sel = s.sel := by simp [renderLine]
@[simp] theorem renderLine_hdma (s : State) : (renderLine s).hdma = s.hdma := by simp [renderLine]
@[simp] theorem renderLine_apu (s : State) : (renderLine s).apu = s.apu := by simp [renderLine]
@[simp] theorem renderLine_cost (s : State) : (renderLine s).cost = s.cost := by simp [renderLine]
@[simp] theorem renderLine_freeCount (s : State) : (renderLine s).freeCount = s.freeCount := by simp [renderLine]
@[simp] theorem renderLine_callbacks (s : State) : (renderLine s).callbacks = s.callbacks := by simp [renderLine]

@[simp] theorem lineEnd_params (s : State) :
    (lineEnd s).params = s.params := by simp only [lineEnd]; (repeat' split) <;> simp [frameStart]
@[simp] theorem lineEnd_cart (s : State) :
    (lineEnd s).cart = s.cart := by simp only [lineEnd]; (repeat' split) <;> simp [frameStart]
@[simp] theorem lineEnd_mem (s : State) :
    (lineEnd s).mem = s.mem := by simp only [lineEnd]; (repeat' split) <;> simp [frameStart]
@[simp] theorem lineEnd_cpu (s : State) :
    (lineEnd s).cpu = s.cpu := by simp only [lineEnd]; (repeat' split) <;> simp [frameStart]
@[simp] theorem lineEnd_mbc (s : State) :
    (lineEnd s).mbc = s.mbc := by simp only [lineEnd]; (repeat' split) <;> simp [frameStart]
@[simp] theorem lineEnd_rtc (s : State) :
    (lineEnd s).rtc = s.rtc := by simp only [lineEnd]; (repeat' split) <;> simp [frameStart]
@[simp] theorem lineEnd_timer (s : State) :
    (lineEnd s).timer = s.timer := by simp only [lineEnd]; (repeat' split) <;> simp [frameStart]
@[simp] theorem lineEnd_serial (s : State) :
    (lineEnd s).serial = s.serial := by simp only [lineEnd]; (repeat' split) <;> simp [frameStart]
@[simp] theorem lineEnd_joypad (s : State) :
    (lineEnd s).joypad = s.joypad := by simp only [lineEnd]; (repeat' split) <;> simp [frameStart]
@[simp] theorem lineEnd_sel (s : State) :
    (lineEnd s).sel = s.sel := by simp only [lineEnd]; (repeat' split) <;> simp [frameStart]
@[simp] theorem lineEnd_hdma (s : State) :
    (lineEnd s).hdma = s.hdma := by simp only [lineEnd]; (repeat' split) <;> simp [frameStart]
@[simp] theorem lineEnd_apu (s : State) :
    (lineEnd s).apu = s.apu := by simp only [lineEnd]; (repeat' split) <;> simp [frameStart]
@[simp] theorem lineEnd_cost (s : State) :
    (lineEnd s).cost = s.cost := by simp only [lineEnd]; (repeat' split) <;> simp [frameStart]
@[simp] theorem lineEnd_freeCount (s : State) :
    (lineEnd s).freeCount = s.freeCount := by simp only [lineEnd]; (repeat' split) <;> simp [frameStart]

@[simp] theorem rtcDot_params (s : State) :
    (rtcDot s).params = s.params := by simp only [rtcDot]; (repeat' split) <;> rfl
@[simp] theorem rtcDot_cart (s : State) : (rtcDot s).cart = s.cart := by simp only [rtcDot]; (repeat' split) <;> rfl
@[simp] theorem rtcDot_mem (s : State) : (rtcDot s).mem = s.mem := by simp only [rtcDot]; (repeat' split) <;> rfl
@[simp] theorem rtcDot_cpu (s : State) : (rtcDot s).cpu = s.cpu := by simp only [rtcDot]; (repeat' split) <;> rfl
@[simp] theorem rtcDot_irq (s : State) : (rtcDot s).irq = s.irq := by simp only [rtcDot]; (repeat' split) <;> rfl
@[simp] theorem rtcDot_mbc (s : State) : (rtcDot s).mbc = s.mbc := by simp only [rtcDot]; (repeat' split) <;> rfl
@[simp] theorem rtcDot_timer (s : State) :
    (rtcDot s).timer = s.timer := by simp only [rtcDot]; (repeat' split) <;> rfl
@[simp] theorem rtcDot_serial (s : State) :
    (rtcDot s).serial = s.serial := by simp only [rtcDot]; (repeat' split) <;> rfl
@[simp] theorem rtcDot_joypad (s : State) :
    (rtcDot s).joypad = s.joypad := by simp only [rtcDot]; (repeat' split) <;> rfl
@[simp] theorem rtcDot_sel (s : State) : (rtcDot s).sel = s.sel := by simp only [rtcDot]; (repeat' split) <;> rfl
@[simp] theorem rtcDot_hdma (s : State) : (rtcDot s).hdma = s.hdma := by simp only [rtcDot]; (repeat' split) <;> rfl
@[simp] theorem rtcDot_ppu (s : State) : (rtcDot s).ppu = s.ppu := by simp only [rtcDot]; (repeat' split) <;> rfl
@[simp] theorem rtcDot_apu (s : State) : (rtcDot s).apu = s.apu := by simp only [rtcDot]; (repeat' split) <;> rfl
@[simp] theorem rtcDot_cost (s : State) : (rtcDot s).cost = s.cost := by simp only [rtcDot]; (repeat' split) <;> rfl
@[simp] theorem rtcDot_freeCount (s : State) :
    (rtcDot s).freeCount = s.freeCount := by simp only [rtcDot]; (repeat' split) <;> rfl
@[simp] theorem rtcDot_callbacks (s : State) :
    (rtcDot s).callbacks = s.callbacks := by simp only [rtcDot]; (repeat' split) <;> rfl

@[simp] theorem sampleTick_params (s : State) :
    (sampleTick s).params = s.params := by simp only [sampleTick]; (repeat' split) <;> simp
@[simp] theorem sampleTick_cart (s : State) :
    (sampleTick s).cart = s.cart := by simp only [sampleTick]; (repeat' split) <;> simp
@[simp] theorem sampleTick_mem (s : State) :
    (sampleTick s).mem = s.mem := by simp only [sampleTick]; (repeat' split) <;> simp
@[simp] theorem sampleTick_cpu (s : State) :
    (sampleTick s).cpu = s.cpu := by simp only [sampleTick]; (repeat' split) <;> simp
@[simp] theorem sampleTick_irq (s : State) :
    (sampleTick s).irq = s.irq := by simp only [sampleTick]; (repeat' split) <;> simp
@[simp] theorem sampleTick_mbc (s : State) :
    (sampleTick s).mbc = s.mbc := by simp only [sampleTick]; (repeat' split) <;> simp
@[simp] theorem sampleTick_rtc (s : State) :
    (sampleTick s).rtc = s.rtc := by simp only [sampleTick]; (repeat' split) <;> simp
@[simp] theorem sampleTick_timer (s : State) :
    (sampleTick s).timer = s.timer := by simp only [sampleTick]; (repeat' split) <;> simp
@[simp] theorem sampleTick_serial (s : State) :
    (sampleTick s).serial = s.serial := by simp only [sampleTick]; (repeat' split) <;> simp
@[simp] theorem sampleTick_joypad (s : State) :
    (sampleTick s).joypad = s.joypad := by simp only [sampleTick]; (repeat' split) <;> simp
@[simp] theorem sampleTick_sel (s : State) :
    (sampleTick s).sel = s.sel := by simp only [sampleTick]; (repeat' split) <;> simp
@[simp] theorem sampleTick_hdma (s : State) :
    (sampleTick s).hdma = s.hdma := by simp only [sampleTick]; (repeat' split) <;> simp
@[simp] theorem sampleTick_ppu (s : State) :
    (sampleTick s).ppu = s.ppu := by simp only [sampleTick]; (repeat' split) <;> simp
@[simp] theorem sampleTick_cost (s : State) :
    (sampleTick s).cost = s.cost := by simp only [sampleTick]; (repeat' split) <;> simp
@[simp] theorem sampleTick_freeCount (s : State) :
    (sampleTick s).freeCount = s.freeCount := by simp only [sampleTick]; (repeat' split) <;> simp

@[simp] theorem apuDot_params (s : State) : (apuDot s).params = s.params := by simp only [apuDot]; split <;> simp
@[simp] theorem apuDot_cart (s : State) : (apuDot s).cart = s.cart := by simp only [apuDot]; split <;> simp
@[simp] theorem apuDot_mem (s : State) : (apuDot s).mem = s.mem := by simp only [apuDot]; split <;> simp
@[simp] theorem apuDot_cpu (s : State) : (apuDot s).cpu = s.cpu := by simp only [apuDot]; split <;> simp
@[simp] theorem apuDot_irq (s : State) : (apuDot s).irq = s.irq := by simp only [apuDot]; split <;> simp
@[simp] theorem apuDot_mbc (s : State) : (apuDot s).mbc = s.mbc := by simp only [apuDot]; split <;> simp
@[simp] theorem apuDot_rtc (s : State) : (apuDot s).rtc = s.rtc := by simp only [apuDot]; split <;> simp
@[simp] theorem apuDot_timer (s : State) : (apuDot s).timer = s.timer := by simp only [apuDot]; split <;> simp
@[simp] theorem apuDot_serial (s : State) : (apuDot s).serial = s.serial := by simp only [apuDot]; split <;> simp
@[simp] theorem apuDot_joypad (s : State) : (apuDot s).joypad = s.joypad := by simp only [apuDot]; split <;> simp
@[simp] theorem apuDot_sel (s : State) : (apuDot s).sel = s.sel := by simp only [apuDot]; split <;> simp
@[simp] theorem apuDot_hdma (s : State) : (apuDot s).hdma = s.hdma := by simp only [apuDot]; split <;> simp
@[simp] theorem apuDot_ppu (s : State) : (apuDot s).ppu = s.ppu := by simp only [apuDot]; split <;> simp
@[simp] theorem apuDot_cost (s : State) : (apuDot s).cost = s.cost := by simp only [apuDot]; split <;> simp
@[simp] theorem apuDot_freeCount (s : State) :
    (apuDot s).freeCount = s.freeCount := by simp only [apuDot]; split <;> simp

@[simp] theorem bcpdWrite_params (s : State) (v : Byte) : (bcpdWrite s v).params = s.params := by simp [bcpdWrite]
@[simp] theorem bcpdWrite_cart (s : State) (v : Byte) : (bcpdWrite s v).cart = s.cart := by simp [bcpdWrite]
@[simp] theorem bcpdWrite_cpu (s : State) (v : Byte) : (bcpdWrite s v).cpu = s.cpu := by simp [bcpdWrite]
@[simp] theorem bcpdWrite_irq (s : State) (v : Byte) : (bcpdWrite s v).irq = s.irq := by simp [bcpdWrite]
@[simp] theorem bcpdWrite_mbc (s : State) (v : Byte) : (bcpdWrite s v).mbc = s.mbc := by simp [bcpdWrite]
@[simp] theorem bcpdWrite_rtc (s : State) (v : Byte) : (bcpdWrite s v).rtc = s.rtc := by simp [bcpdWrite]
@[simp] theorem bcpdWrite_timer (s : State) (v : Byte) : (bcpdWrite s v).timer = s.timer := by simp [bcpdWrite]
@[simp] theorem bcpdWrite_serial (s : State) (v : Byte) : (bcpdWrite s v).serial = s.serial := by simp [bcpdWrite]
@[simp] theorem bcpdWrite_joypad (s : State) (v : Byte) : (bcpdWrite s v).joypad = s.joypad := by simp [bcpdWrite]
@[simp] theorem bcpdWrite_sel (s : State) (v : Byte) : (bcpdWrite s v).sel = s.sel := by simp [bcpdWrite]
@[simp] theorem bcpdWrite_hdma (s : State) (v : Byte) : (bcpdWrite s v).hdma = s.hdma := by simp [bcpdWrite]
@[simp] theorem bcpdWrite_apu (s : State) (v : Byte) : (bcpdWrite s v).apu = s.apu := by simp [bcpdWrite]
@[simp] theorem bcpdWrite_cost (s : State) (v : Byte) : (bcpdWrite s v).cost = s.cost := by simp [bcpdWrite]
@[simp] theorem bcpdWrite_freeCount (s : State) (v : Byte) :
    (bcpdWrite s v).freeCount = s.freeCount := by simp [bcpdWrite]
@[simp] theorem bcpdWrite_callbacks (s : State) (v : Byte) :
    (bcpdWrite s v).callbacks = s.callbacks := by simp [bcpdWrite]

@[simp] theorem ocpdWrite_params (s : State) (v : Byte) : (ocpdWrite s v).params = s.params := by simp [ocpdWrite]
@[simp] theorem ocpdWrite_cart (s : State) (v : Byte) : (ocpdWrite s v).cart = s.cart := by simp [ocpdWrite]
@[simp] theorem ocpdWrite_cpu (s : State) (v : Byte) : (ocpdWrite s v).cpu = s.cpu := by simp [ocpdWrite]
@[simp] theorem ocpdWrite_irq (s : State) (v : Byte) : (ocpdWrite s v).irq = s.irq := by simp [ocpdWrite]
@[simp] theorem ocpdWrite_mbc (s : State) (v : Byte) : (ocpdWrite s v).mbc = s.mbc := by simp [ocpdWrite]
@[simp] theorem ocpdWrite_rtc (s : State) (v : Byte) : (ocpdWrite s v).rtc = s.rtc := by simp [ocpdWrite]
@[simp] theorem ocpdWrite_timer (s : State) (v : Byte) : (ocpdWrite s v).timer = s.timer := by simp [ocpdWrite]
@[simp] theorem ocpdWrite_serial (s : State) (v : Byte) : (ocpdWrite s v).serial = s.serial := by simp [ocpdWrite]
@[simp] theorem ocpdWrite_joypad (s : State) (v : Byte) : (ocpdWrite s v).joypad = s.joypad := by simp [ocpdWrite]
@[simp] theorem ocpdWrite_sel (s : State) (v : Byte) : (ocpdWrite s v).sel = s.sel := by simp [ocpdWrite]
@[simp] theorem ocpdWrite_hdma (s : State) (v : Byte) : (ocpdWrite s v).hdma = s.hdma := by simp [ocpdWrite]
@[simp] theorem ocpdWrite_apu (s : State) (v : Byte) : (ocpdWrite s v).apu = s.apu := by simp [ocpdWrite]
@[simp] theorem ocpdWrite_cost (s : State) (v : Byte) : (ocpdWrite s v).cost = s.cost := by simp [ocpdWrite]
@[simp] theorem ocpdWrite_freeCount (s : State) (v : Byte) :
    (ocpdWrite s v).freeCount = s.freeCount := by simp [ocpdWrite]
@[simp] theorem ocpdWrite_callbacks (s : State) (v : Byte) :
    (ocpdWrite s v).callbacks = s.callbacks := by simp [ocpdWrite]

@[simp] theorem oamCopy_params (s : State) (v : Byte) (is : List Nat) :
    (oamCopy s v is).params = s.params := by
  induction is generalizing s with
  | nil => rfl
  | cons i rest ih => exact (ih _).trans (by simp)
@[simp] theorem oamCopy_cart (s : State) (v : Byte) (is : List Nat) :
    (oamCopy s v is).cart = s.cart := by
  induction is generalizing s with
  | nil => rfl
  | cons i rest ih => exact (ih _).trans (by simp)
@[simp] theorem oamCopy_cpu (s : State) (v : Byte) (is : List Nat) :
    (oamCopy s v is).cpu = s.cpu := by
  induction is generalizing s with
  | nil => rfl
  | cons i rest ih => exact (ih _).trans (by simp)
@[simp] theorem oamCopy_irq (s : State) (v : Byte) (is : List Nat) :
    (oamCopy s v is).irq = s.irq := by
  induction is generalizing s with
  | nil => rfl
  | cons i rest ih => exact (ih _).trans (by simp)
@[simp] theorem oamCopy_mbc (s : State) (v : Byte) (is : List Nat) :
    (oamCopy s v is).mbc = s.mbc := by
  induction is generalizing s with
  | nil => rfl
  | cons i rest ih => exact (ih _).trans (by simp)
@[simp] theorem oamCopy_rtc (s : State) (v : Byte) (is : List Nat) :
    (oamCopy s v is).rtc = s.rtc := by
  induction is generalizing s with
  | nil => rfl
  | cons i rest ih => exact (ih _).trans (by simp)
@[simp] theorem oamCopy_timer (s : State) (v : Byte) (is : List Nat) :
    (oamCopy s v is).timer = s.timer := by
  induction is generalizing s with
  | nil => rfl
  | cons i rest ih => exact (ih _).trans (by simp)
@[simp] theorem oamCopy_serial (s : State) (v : Byte) (is : List Nat) :
    (oamCopy s v is).serial = s.serial := by
  induction is generalizing s with
  | nil => rfl
  | cons i rest ih => exact (ih _).trans (by simp)
@[simp] theorem oamCopy_joypad (s : State) (v : Byte) (is : List Nat) :
    (oamCopy s v is).joypad = s.joypad := by
  induction is generalizing s with
  | nil => rfl
  | cons i rest ih => exact (ih _).trans (by simp)
@[simp] theorem oamCopy_sel (s : State) (v : Byte) (is : List Nat) :
    (oamCopy s v is).sel = s.sel := by
  induction is generalizing s with
  | nil => rfl
  | cons i rest ih => exact (ih _).trans (by simp)
@[simp] theorem oamCopy_hdma (s : State) (v : Byte) (is : List Nat) :
    (oamCopy s v is).hdma = s.hdma := by
  induction is generalizing s with
  | nil => rfl
  | cons i rest ih => exact (ih _).trans (by simp)
@[simp] theorem oamCopy_ppu (s : State) (v : Byte) (is : List Nat) :
    (oamCopy s v is).ppu = s.ppu := by
  induction is generalizing s with
  | nil => rfl
  | cons i rest ih => exact (ih _).trans (by simp)
@[simp] theorem oamCopy_apu (s : State) (v : Byte) (is : List Nat) :
    (oamCopy s v is).apu = s.apu := by
  induction is generalizing s with
  | nil => rfl
  | cons i rest ih => exact (ih _).trans (by simp)
@[simp] theorem oamCopy_cost (s : State) (v : Byte) (is : List Nat) :
    (oamCopy s v is).cost = s.cost := by
  induction is generalizing s with
  | nil => rfl
  | cons i rest ih => exact (ih _).trans (by simp)
@[simp] theorem oamCopy_freeCount (s : State) (v : Byte) (is : List Nat) :
    (oamCopy s v is).freeCount = s.freeCount := by
  induction is generalizing s with
  | nil => rfl
  | cons i rest ih => exact (ih _).trans (by simp)
@[simp] theorem oamCopy_callbacks (s : State) (v : Byte) (is : List Nat) :
    (oamCopy s v is).callbacks = s.callbacks := by
  induction is generalizing s with
  | nil => rfl
  | cons i rest ih => exact (ih _).trans (by simp)

@[simp] theorem dmaWrite_params (s : State) (v : Byte) : (dmaWrite s v).params = s.params := by simp [dmaWrite]
@[simp] theorem dmaWrite_cart (s : State) (v : Byte) : (dmaWrite s v).cart = s.cart := by simp [dmaWrite]
@[simp] theorem dmaWrite_cpu (s : State) (v : Byte) : (dmaWrite s v).cpu = s.cpu := by simp [dmaWrite]
@[simp] theorem dmaWrite_irq (s : State) (v : Byte) : (dmaWrite s v).irq = s.irq := by simp [dmaWrite]
@[simp] theorem dmaWrite_mbc (s : State) (v : Byte) : (dmaWrite s v).mbc = s.mbc := by simp [dmaWrite]
@[simp] theorem dmaWrite_rtc (s : State) (v : Byte) : (dmaWrite s v).rtc = s.rtc := by simp [dmaWrite]
@[simp] theorem dmaWrite_timer (s : State) (v : Byte) : (dmaWrite s v).timer = s.timer := by simp [dmaWrite]
@[simp] theorem dmaWrite_serial (s : State) (v : Byte) : (dmaWrite s v).serial = s.serial := by simp [dmaWrite]
@[simp] theorem dmaWrite_joypad (s : State) (v : Byte) : (dmaWrite s v).joypad = s.joypad := by simp [dmaWrite]
@[simp] theorem dmaWrite_sel (s : State) (v : Byte) : (dmaWrite s v).sel = s.sel := by simp [dmaWrite]
@[simp] theorem dmaWrite_hdma (s : State) (v : Byte) : (dmaWrite s v).hdma = s.hdma := by simp [dmaWrite]
@[simp] theorem dmaWrite_apu (s : State) (v : Byte) : (dmaWrite s v).apu = s.apu := by simp [dmaWrite]
@[simp] theorem dmaWrite_cost (s : State) (v : Byte) : (dmaWrite s v).cost = s.cost := by simp [dmaWrite]
@[simp] theorem dmaWrite_freeCount (s : State) (v : Byte) :
    (dmaWrite s v).freeCount = s.freeCount := by simp [dmaWrite]
@[simp] theorem dmaWrite_callbacks (s : State) (v : Byte) :
    (dmaWrite s v).callbacks = s.callbacks := by simp [dmaWrite]

@[simp] theorem blockCopy_params (s : State) (is : List Nat) :
    (blockCopy s is).params = s.params := by
  induction is generalizing s with
  | nil => rfl
  | cons i rest ih => exact (ih _).trans (by simp)
@[simp] theorem blockCopy_cart (s : State) (is : List Nat) :
    (blockCopy s is).cart = s.cart := by
  induction is generalizing s with
  | nil => rfl
  | cons i rest ih => exact (ih _).trans (by simp)
@[simp] theorem blockCopy_cpu (s : State) (is : List Nat) :
    (blockCopy s is).cpu = s.cpu := by
  induction is generalizing s with
  | nil => rfl
  | cons i rest ih => exact (ih _).trans (by simp)
@[simp] theorem blockCopy_irq (s : State) (is : List Nat) :
    (blockCopy s is).irq = s.irq := by
  induction is generalizing s with
  | nil => rfl
  | cons i rest ih => exact (ih _).trans (by simp)
@[simp] theorem blockCopy_mbc (s : State) (is : List Nat) :
    (blockCopy s is).mbc = s.mbc := by
  induction is generalizing s with
  | nil => rfl
  | cons i rest ih => exact (ih _).trans (by simp)
@[simp] theorem blockCopy_rtc (s : State) (is : List Nat) :
    (blockCopy s is).rtc = s.rtc := by
  induction is generalizing s with
  | nil => rfl
  | cons i rest ih => exact (ih _).trans (by simp)
@[simp] theorem blockCopy_timer (s : State) (is : List Nat) :
    (blockCopy s is).timer = s.timer := by
  induction is generalizing s with
  | nil => rfl
  | cons i rest ih => exact (ih _).trans (by simp)
@[simp] theorem blockCopy_serial (s : State) (is : List Nat) :
    (blockCopy s is).serial = s.serial := by
  induction is generalizing s with
  | nil => rfl
  | cons i rest ih => exact (ih _).trans (by simp)
@[simp] theorem blockCopy_joypad (s : State) (is : List Nat) :
    (blockCopy s is).joypad = s.joypad := by
  induction is generalizing s with
  | nil => rfl
  | cons i rest ih => exact (ih _).trans (by simp)
@[simp] theorem blockCopy_sel (s : State) (is : List Nat) :
    (blockCopy s is).sel = s.sel := by
  induction is generalizing s with
  | nil => rfl
  | cons i rest ih => exact (ih _).trans (by simp)
@[simp] theorem blockCopy_hdma (s : State) (is : List Nat) :
    (blockCopy s is).hdma = s.hdma := by
  induction is generalizing s with
  | nil => rfl
  | cons i rest ih => exact (ih _).trans (by simp)
@[simp] theorem blockCopy_ppu (s : State) (is : List Nat) :
    (blockCopy s is).ppu = s.ppu := by
  induction is generalizing s with
  | nil => rfl
  | cons i rest ih => exact (ih _).trans (by simp)
@[simp] theorem blockCopy_apu (s : State) (is : List Nat) :
    (blockCopy s is).apu = s.apu := by
  induction is generalizing s with
  | nil => rfl
  | cons i rest ih => exact (ih _).trans (by simp)
@[simp] theorem blockCopy_cost (s : State) (is : List Nat) :
    (blockCopy s is).cost = s.cost := by
  induction is generalizing s with
  | nil => rfl
  | cons i rest ih => exact (ih _).trans (by simp)
@[simp] theorem blockCopy_freeCount (s : State) (is : List Nat) :
    (blockCopy s is).freeCount = s.freeCount := by
  induction is generalizing s with
  | nil => rfl
  | cons i rest ih => exact (ih _).trans (by simp)
@[simp] theorem blockCopy_callbacks (s : State) (is : List Nat) :
    (blockCopy s is).callbacks = s.callbacks := by
  induction is generalizing s with
  | nil => rfl
  | cons i rest ih => exact (ih _).trans (by simp)

@[simp] theorem hdmaBlock_params (s : State) : (hdmaBlock s).params = s.params := by simp [hdmaBlock]
@[simp] theorem hdmaBlock_cart (s : State) : (hdmaBlock s).cart = s.cart := by simp [hdmaBlock]
@[simp] theorem hdmaBlock_cpu (s : State) : (hdmaBlock s).cpu = s.cpu := by simp [hdmaBlock]
@[simp] theorem hdmaBlock_irq (s : State) : (hdmaBlock s).irq = s.irq := by simp [hdmaBlock]
@[simp] theorem hdmaBlock_mbc (s : State) : (hdmaBlock s).mbc = s.mbc := by simp [hdmaBlock]
@[simp] theorem hdmaBlock_rtc (s : State) : (hdmaBlock s).rtc = s.rtc := by simp [hdmaBlock]
@[simp] theorem hdmaBlock_timer (s : State) : (hdmaBlock s).timer = s.timer := by simp [hdmaBlock]
@[simp] theorem hdmaBlock_serial (s : State) : (hdmaBlock s).serial = s.serial := by simp [hdmaBlock]
@[simp] theorem hdmaBlock_joypad (s : State) : (hdmaBlock s).joypad = s.joypad := by simp [hdmaBlock]
@[simp] theorem hdmaBlock_sel (s : State) : (hdmaBlock s).sel = s.sel := by simp [hdmaBlock]
@[simp] theorem hdmaBlock_ppu (s : State) : (hdmaBlock s).ppu = s.ppu := by simp [hdmaBlock]
@[simp] theorem hdmaBlock_apu (s : State) : (hdmaBlock s).apu = s.apu := by simp [hdmaBlock]
@[simp] theorem hdmaBlock_cost (s : State) : (hdmaBlock s).cost = s.cost := by simp [hdmaBlock]
@[simp] theorem hdmaBlock_callbacks (s : State) : (hdmaBlock s).callbacks = s.callbacks := by simp [hdmaBlock]

@[simp] theorem hdmaBlocks_params (s : State) (n : Nat) :
    (hdmaBlocks n s).params = s.params := by
  induction n generalizing s with
  | zero => rfl
  | succ n ih =>
    simp only [hdmaBlocks]
    split <;> simp [ih]
@[simp] theorem hdmaBlocks_cart (s : State) (n : Nat) :
    (hdmaBlocks n s).cart = s.cart := by
  induction n generalizing s with
  | zero => rfl
  | succ n ih =>
    simp only [hdmaBlocks]
    split <;> simp [ih]
@[simp] theorem hdmaBlocks_cpu (s : State) (n : Nat) :
    (hdmaBlocks n s).cpu = s.cpu := by
  induction n generalizing s with
  | zero => rfl
  | succ n ih =>
    simp only [hdmaBlocks]
    split <;> simp [ih]
@[simp] theorem hdmaBlocks_irq (s : State) (n : Nat) :
    (hdmaBlocks n s).irq = s.irq := by
  induction n generalizing s with
  | zero => rfl
  | succ n ih =>
    simp only [hdmaBlocks]
    split <;> simp [ih]
@[simp] theorem hdmaBlocks_mbc (s : State) (n : Nat) :
    (hdmaBlocks n s).mbc = s.mbc := by
  induction n generalizing s with
  | zero => rfl
  | succ n ih =>
    simp only [hdmaBlocks]
    split <;> simp [ih]
@[simp] theorem hdmaBlocks_rtc (s : State) (n : Nat) :
    (hdmaBlocks n s).rtc = s.rtc := by
  induction n generalizing s with
  | zero => rfl
  | succ n ih =>
    simp only [hdmaBlocks]
    split <;> simp [ih]
@[simp] theorem hdmaBlocks_timer (s : State) (n : Nat) :
    (hdmaBlocks n s).timer = s.timer := by
  induction n generalizing s with
  | zero => rfl
  | succ n ih =>
    simp only [hdmaBlocks]
    split <;> simp [ih]
@[simp] theorem hdmaBlocks_serial (s : State) (n : Nat) :
    (hdmaBlocks n s).serial = s.serial := by
  induction n generalizing s with
  | zero => rfl
  | succ n ih =>
    simp only [hdmaBlocks]
    split <;> simp [ih]
@[simp] theorem hdmaBlocks_joypad (s : State) (n : Nat) :
    (hdmaBlocks n s).joypad = s.joypad := by
  induction n generalizing s with
  | zero => rfl
  | succ n ih =>
    simp only [hdmaBlocks]
    split <;> simp [ih]
@[simp] theorem hdmaBlocks_sel (s : State) (n : Nat) :
    (hdmaBlocks n s).sel = s.sel := by
  induction n generalizing s with
  | zero => rfl
  | succ n ih =>
    simp only [hdmaBlocks]
    split <;> simp [ih]
@[simp] theorem hdmaBlocks_ppu (s : State) (n : Nat) :
    (hdmaBlocks n s).ppu = s.ppu := by
  induction n generalizing s with
  | zero => rfl
  | succ n ih =>
    simp only [hdmaBlocks]
    split <;> simp [ih]
@[simp] theorem hdmaBlocks_apu (s : State) (n : Nat) :
    (hdmaBlocks n s).apu = s.apu := by
  induction n generalizing s with
  | zero => rfl
  | succ n ih =>
    simp only [hdmaBlocks]
    split <;> simp [ih]
@[simp] theorem hdmaBlocks_cost (s : State) (n : Nat) :
    (hdmaBlocks n s).cost = s.cost := by
  induction n generalizing s with
  | zero => rfl
  | succ n ih =>
    simp only [hdmaBlocks]
    split <;> simp [ih]
@[simp] theorem hdmaBlocks_callbacks (s : State) (n : Nat) :
    (hdmaBlocks n s).callbacks = s.callbacks := by
  induction n generalizing s with
  | zero => rfl
  | succ n ih =>
    simp only [hdmaBlocks]
    split <;> simp [ih]

@[simp] theorem gdmaRun_params (s : State) : (gdmaRun s).params = s.params := by simp [gdmaRun]
@[simp] theorem gdmaRun_cart (s : State) : (gdmaRun s).cart = s.cart := by simp [gdmaRun]
@[simp] theorem gdmaRun_cpu (s : State) : (gdmaRun s).cpu = s.cpu := by simp [gdmaRun]
@[simp] theorem gdmaRun_irq (s : State) : (gdmaRun s).irq = s.irq := by simp [gdmaRun]
@[simp] theorem gdmaRun_mbc (s : State) : (gdmaRun s).mbc = s.mbc := by simp [gdmaRun]
@[simp] theorem gdmaRun_rtc (s : State) : (gdmaRun s).rtc = s.rtc := by simp [gdmaRun]
@[simp] theorem gdmaRun_timer (s : State) : (gdmaRun s).timer = s.timer := by simp [gdmaRun]
@[simp] theorem gdmaRun_serial (s : State) : (gdmaRun s).serial = s.serial := by simp [gdmaRun]
@[simp] theorem gdmaRun_joypad (s : State) : (gdmaRun s).joypad = s.joypad := by simp [gdmaRun]
@[simp] theorem gdmaRun_sel (s : State) : (gdmaRun s).sel = s.sel := by simp [gdmaRun]
@[simp] theorem gdmaRun_ppu (s : State) : (gdmaRun s).ppu = s.ppu := by simp [gdmaRun]
@[simp] theorem gdmaRun_apu (s : State) : (gdmaRun s).apu = s.apu := by simp [gdmaRun]
@[simp] theorem gdmaRun_callbacks (s : State) : (gdmaRun s).callbacks = s.callbacks := by simp [gdmaRun]

@[simp] theorem hdma5Write_params (s : State) (v : Byte) :
    (hdma5Write s v).params = s.params := by simp only [hdma5Write]; (repeat' split) <;> simp
@[simp] theorem hdma5Write_cart (s : State) (v : Byte) :
    (hdma5Write s v).cart = s.cart := by simp only [hdma5Write]; (repeat' split) <;> simp
@[simp] theorem hdma5Write_cpu (s : State) (v : Byte) :
    (hdma5Write s v).cpu = s.cpu := by simp only [hdma5Write]; (repeat' split) <;> simp
@[simp] theorem hdma5Write_irq (s : State) (v : Byte) :
    (hdma5Write s v).irq = s.irq := by simp only [hdma5Write]; (repeat' split) <;> simp
@[simp] theorem hdma5Write_mbc (s : State) (v : Byte) :
    (hdma5Write s v).mbc = s.mbc := by simp only [hdma5Write]; (repeat' split) <;> simp
@[simp] theorem hdma5Write_rtc (s : State) (v : Byte) :
    (hdma5Write s v).rtc = s.rtc := by simp only [hdma5Write]; (repeat' split) <;> simp
@[simp] theorem hdma5Write_timer (s : State) (v : Byte) :
    (hdma5Write s v).timer = s.timer := by simp only [hdma5Write]; (repeat' split) <;> simp
@[simp] theorem hdma5Write_serial (s : State) (v : Byte) :
    (hdma5Write s v).serial = s.serial := by simp only [hdma5Write]; (repeat' split) <;> simp
@[simp] theorem hdma5Write_joypad (s : State) (v : Byte) :
    (hdma5Write s v).joypad = s.joypad := by simp only [hdma5Write]; (repeat' split) <;> simp
@[simp] theorem hdma5Write_sel (s : State) (v : Byte) :
    (hdma5Write s v).sel = s.sel := by simp only [hdma5Write]; (repeat' split) <;> simp
@[simp] theorem hdma5Write_ppu (s : State) (v : Byte) :
    (hdma5Write s v).ppu = s.ppu := by simp only [hdma5Write]; (repeat' split) <;> simp
@[simp] theorem hdma5Write_apu (s : State) (v : Byte) :
    (hdma5Write s v).apu = s.apu := by simp only [hdma5Write]; (repeat' split) <;> simp
@[simp] theorem hdma5Write_callbacks (s : State) (v : Byte) :
    (hdma5Write s v).callbacks = s.callbacks := by simp only [hdma5Write]; (repeat' split) <;> simp

@[simp] theorem hblankHook_params (s : State) :
    (hblankHook s).params = s.params := by simp only [hblankHook]; split <;> simp
@[simp] theorem hblankHook_cart (s : State) :
    (hblankHook s).cart = s.cart := by simp only [hblankHook]; split <;> simp
@[simp] theorem hblankHook_cpu (s : State) : (hblankHook s).cpu = s.cpu := by simp only [hblankHook]; split <;> simp
@[simp] theorem hblankHook_irq (s : State) : (hblankHook s).irq = s.irq := by simp only [hblankHook]; split <;> simp
@[simp] theorem hblankHook_mbc (s : State) : (hblankHook s).mbc = s.mbc := by simp only [hblankHook]; split <;> simp
@[simp] theorem hblankHook_rtc (s : State) : (hblankHook s).rtc = s.rtc := by simp only [hblankHook]; split <;> simp
@[simp] theorem hblankHook_timer (s : State) :
    (hblankHook s).timer = s.timer := by simp only [hblankHook]; split <;> simp
@[simp] theorem hblankHook_serial (s : State) :
    (hblankHook s).serial = s.serial := by simp only [hblankHook]; split <;> simp
@[simp] theorem hblankHook_joypad (s : State) :
    (hblankHook s).joypad = s.joypad := by simp only [hblankHook]; split <;> simp
@[simp] theorem hblankHook_sel (s : State) : (hblankHook s).sel = s.sel := by simp only [hblankHook]; split <;> simp
@[simp] theorem hblankHook_ppu (s : State) : (hblankHook s).ppu = s.ppu := by simp only [hblankHook]; split <;> simp
@[simp] theorem hblankHook_apu (s : State) : (hblankHook s).apu = s.apu := by simp only [hblankHook]; split <;> simp
@[simp] theorem hblankHook_cost (s : State) :
    (hblankHook s).cost = s.cost := by simp only [hblankHook]; split <;> simp
@[simp] theorem hblankHook_callbacks (s : State) :
    (hblankHook s).callbacks = s.callbacks := by simp only [hblankHook]; split <;> simp

@[simp] theorem drawEnd_params (s : State) : (drawEnd s).params = s.params := by simp [drawEnd]
@[simp] theorem drawEnd_cart (s : State) : (drawEnd s).cart = s.cart := by simp [drawEnd]
@[simp] theorem drawEnd_cpu (s : State) : (drawEnd s).cpu = s.cpu := by simp [drawEnd]
@[simp] theorem drawEnd_irq (s : State) : (drawEnd s).irq = s.irq := by simp [drawEnd]
@[simp] theorem drawEnd_mbc (s : State) : (drawEnd s).mbc = s.mbc := by simp [drawEnd]
@[simp] theorem drawEnd_rtc (s : State) : (drawEnd s).rtc = s.rtc := by simp [drawEnd]
@[simp] theorem drawEnd_timer (s : State) : (drawEnd s).timer = s.timer := by simp [drawEnd]
@[simp] theorem drawEnd_serial (s : State) : (drawEnd s).serial = s.serial := by simp [drawEnd]
@[simp] theorem drawEnd_joypad (s : State) : (drawEnd s).joypad = s.joypad := by simp [drawEnd]
@[simp] theorem drawEnd_sel (s : State) : (drawEnd s).sel = s.sel := by simp [drawEnd]
@[simp] theorem drawEnd_apu (s : State) : (drawEnd s).apu = s.apu := by simp [drawEnd]
@[simp] theorem drawEnd_cost (s : State) : (drawEnd s).cost = s.cost := by simp [drawEnd]
@[simp] theorem drawEnd_callbacks (s : State) : (drawEnd s).callbacks = s.callbacks := by simp [drawEnd]

@[simp] theorem ppuDot_params (s : State) :
    (ppuDot s).params = s.params := by simp only [ppuDot]; (repeat' split) <;> simp [scanEnd]
@[simp] theorem ppuDot_cart (s : State) :
    (ppuDot s).cart = s.cart := by simp only [ppuDot]; (repeat' split) <;> simp [scanEnd]
@[simp] theorem ppuDot_cpu (s : State) :
    (ppuDot s).cpu = s.cpu := by simp only [ppuDot]; (repeat' split) <;> simp [scanEnd]
@[simp] theorem ppuDot_mbc (s : State) :
    (ppuDot s).mbc = s.mbc := by simp only [ppuDot]; (repeat' split) <;> simp [scanEnd]
@[simp] theorem ppuDot_rtc (s : State) :
    (ppuDot s).rtc = s.rtc := by simp only [ppuDot]; (repeat' split) <;> simp [scanEnd]
@[simp] theorem ppuDot_timer (s : State) :
    (ppuDot s).timer = s.timer := by simp only [ppuDot]; (repeat' split) <;> simp [scanEnd]
@[simp] theorem ppuDot_serial (s : State) :
    (ppuDot s).serial = s.serial := by simp only [ppuDot]; (repeat' split) <;> simp [scanEnd]
@[simp] theorem ppuDot_joypad (s : State) :
    (ppuDot s).joypad = s.joypad := by simp only [ppuDot]; (repeat' split) <;> simp [scanEnd]
@[simp] theorem ppuDot_sel (s : State) :
    (ppuDot s).sel = s.sel := by simp only [ppuDot]; (repeat' split) <;> simp [scanEnd]
@[simp] theorem ppuDot_apu (s : State) :
    (ppuDot s).apu = s.apu := by simp only [ppuDot]; (repeat' split) <;> simp [scanEnd]
@[simp] theorem ppuDot_cost (s : State) :
    (ppuDot s).cost = s.cost := by simp only [ppuDot]; (repeat' split) <;> simp [scanEnd]

@[simp] theorem deviceTick_params (s : State) (fast : Bool) (k : Nat) :
    (deviceTick fast k s).params = s.params := by simp only [deviceTick]; split <;> simp
@[simp] theorem deviceTick_cart (s : State) (fast : Bool) (k : Nat) :
    (deviceTick fast k s).cart = s.cart := by simp only [deviceTick]; split <;> simp
@[simp] theorem deviceTick_cpu (s : State) (fast : Bool) (k : Nat) :
    (deviceTick fast k s).cpu = s.cpu := by simp only [deviceTick]; split <;> simp
@[simp] theorem deviceTick_mbc (s : State) (fast : Bool) (k : Nat) :
    (deviceTick fast k s).mbc = s.mbc := by simp only [deviceTick]; split <;> simp
@[simp] theorem deviceTick_joypad (s : State) (fast : Bool) (k : Nat) :
    (deviceTick fast k s).joypad = s.joypad := by simp only [deviceTick]; split <;> simp
@[simp] theorem deviceTick_sel (s : State) (fast : Bool) (k : Nat) :
    (deviceTick fast k s).sel = s.sel := by simp only [deviceTick]; split <;> simp
@[simp] theorem deviceTick_cost (s : State) (fast : Bool) (k : Nat) :
    (deviceTick fast k s).cost = s.cost := by simp only [deviceTick]; split <;> simp

@[simp] theorem deviceTicks_params (s : State) (fast : Bool) (n k : Nat) :
    (deviceTicks fast n k s).params = s.params := by
  induction n generalizing s k with
  | zero => rfl
  | succ n ih => simp [deviceTicks, ih]
@[simp] theorem deviceTicks_cart (s : State) (fast : Bool) (n k : Nat) :
    (deviceTicks fast n k s).cart = s.cart := by
  induction n generalizing s k with
  | zero => rfl
  | succ n ih => simp [deviceTicks, ih]
@[simp] theorem deviceTicks_cpu (s : State) (fast : Bool) (n k : Nat) :
    (deviceTicks fast n k s).cpu = s.cpu := by
  induction n generalizing s k with
  | zero => rfl
  | succ n ih => simp [deviceTicks, ih]
@[simp] theorem deviceTicks_mbc (s : State) (fast : Bool) (n k : Nat) :
    (deviceTicks fast n k s).mbc = s.mbc := by
  induction n generalizing s k with
  | zero => rfl
  | succ n ih => simp [deviceTicks, ih]
@[simp] theorem deviceTicks_joypad (s : State) (fast : Bool) (n k : Nat) :
    (deviceTicks fast n k s).joypad = s.joypad := by
  induction n generalizing s k with
  | zero => rfl
  | succ n ih => simp [deviceTicks, ih]
@[simp] theorem deviceTicks_sel (s : State) (fast : Bool) (n k : Nat) :
    (deviceTicks fast n k s).sel = s.sel := by
  induction n generalizing s k with
  | zero => rfl
  | succ n ih => simp [deviceTicks, ih]
@[simp] theorem deviceTicks_cost (s : State) (fast : Bool) (n k : Nat) :
    (deviceTicks fast n k s).cost = s.cost := by
  induction n generalizing s k with
  | zero => rfl
  | succ n ih => simp [deviceTicks, ih]

@[simp] theorem advanceDevices_params (s : State) (fast : Bool) (t : Nat) :
    (advanceDevices fast t s).params = s.params := by simp [advanceDevices]
@[simp] theorem advanceDevices_cart (s : State) (fast : Bool) (t : Nat) :
    (advanceDevices fast t s).cart = s.cart := by simp [advanceDevices]
@[simp] theorem advanceDevices_cpu (s : State) (fast : Bool) (t : Nat) :
    (advanceDevices fast t s).cpu = s.cpu := by simp [advanceDevices]
@[simp] theorem advanceDevices_mbc (s : State) (fast : Bool) (t : Nat) :
    (advanceDevices fast t s).mbc = s.mbc := by simp [advanceDevices]
@[simp] theorem advanceDevices_joypad (s : State) (fast : Bool) (t : Nat) :
    (advanceDevices fast t s).joypad = s.joypad := by simp [advanceDevices]
@[simp] theorem advanceDevices_sel (s : State) (fast : Bool) (t : Nat) :
    (advanceDevices fast t s).sel = s.sel := by simp [advanceDevices]
@[simp] theorem advanceDevices_cost (s : State) (fast : Bool) (t : Nat) :
    (advanceDevices fast t s).cost = s.cost := by simp [advanceDevices]

@[simp] theorem mbcWrite_params (s : State) (n : Nat) (v : Byte) :
    (mbcWrite s n v).params = s.params := by simp only [mbcWrite]; split <;> rfl
@[simp] theorem mbcWrite_cart (s : State) (n : Nat) (v : Byte) :
    (mbcWrite s n v).cart = s.cart := by simp only [mbcWrite]; split <;> rfl
@[simp] theorem mbcWrite_mem (s : State) (n : Nat) (v : Byte) :
    (mbcWrite s n v).mem = s.mem := by simp only [mbcWrite]; split <;> rfl
@[simp] theorem mbcWrite_cpu (s : State) (n : Nat) (v : Byte) :
    (mbcWrite s n v).cpu = s.cpu := by simp only [mbcWrite]; split <;> rfl
@[simp] theorem mbcWrite_irq (s : State) (n : Nat) (v : Byte) :
    (mbcWrite s n v).irq = s.irq := by simp only [mbcWrite]; split <;> rfl
@[simp] theorem mbcWrite_timer (s : State) (n : Nat) (v : Byte) :
    (mbcWrite s n v).timer = s.timer := by simp only [mbcWrite]; split <;> rfl
@[simp] theorem mbcWrite_serial (s : State) (n : Nat) (v : Byte) :
    (mbcWrite s n v).serial = s.serial := by simp only [mbcWrite]; split <;> rfl
@[simp] theorem mbcWrite_joypad (s : State) (n : Nat) (v : Byte) :
    (mbcWrite s n v).joypad = s.joypad := by simp only [mbcWrite]; split <;> rfl
@[simp] theorem mbcWrite_sel (s : State) (n : Nat) (v : Byte) :
    (mbcWrite s n v).sel = s.sel := by simp only [mbcWrite]; split <;> rfl
@[simp] theorem mbcWrite_hdma (s : State) (n : Nat) (v : Byte) :
    (mbcWrite s n v).hdma = s.hdma := by simp only [mbcWrite]; split <;> rfl
@[simp] theorem mbcWrite_ppu (s : State) (n : Nat) (v : Byte) :
    (mbcWrite s n v).ppu = s.ppu := by simp only [mbcWrite]; split <;> rfl
@[simp] theorem mbcWrite_apu (s : State) (n : Nat) (v : Byte) :
    (mbcWrite s n v).apu = s.apu := by simp only [mbcWrite]; split <;> rfl
@[simp] theorem mbcWrite_cost (s : State) (n : Nat) (v : Byte) :
    (mbcWrite s n v).cost = s.cost := by simp only [mbcWrite]; split <;> rfl
@[simp] theorem mbcWrite_freeCount (s : State) (n : Nat) (v : Byte) :
    (mbcWrite s n v).freeCount = s.freeCount := by simp only [mbcWrite]; split <;> rfl
@[simp] theorem mbcWrite_callbacks (s : State) (n : Nat) (v : Byte) :
    (mbcWrite s n v).callbacks = s.callbacks := by simp only [mbcWrite]; split <;> rfl

@[simp] theorem mbcWriteRam_params (s : State) (n : Nat) (v : Byte) :
    (mbcWriteRam s n v).params = s.params := by simp only [mbcWriteRam]; split <;> simp
@[simp] theorem mbcWriteRam_cart (s : State) (n : Nat) (v : Byte) :
    (mbcWriteRam s n v).cart = s.cart := by simp only [mbcWriteRam]; split <;> simp
@[simp] theorem mbcWriteRam_cpu (s : State) (n : Nat) (v : Byte) :
    (mbcWriteRam s n v).cpu = s.cpu := by simp only [mbcWriteRam]; split <;> simp
@[simp] theorem mbcWriteRam_irq (s : State) (n : Nat) (v : Byte) :
    (mbcWriteRam s n v).irq = s.irq := by simp only [mbcWriteRam]; split <;> simp
@[simp] theorem mbcWriteRam_mbc (s : State) (n : Nat) (v : Byte) :
    (mbcWriteRam s n v).mbc = s.mbc := by simp only [mbcWriteRam]; split <;> simp
@[simp] theorem mbcWriteRam_timer (s : State) (n : Nat) (v : Byte) :
    (mbcWriteRam s n v).timer = s.timer := by simp only [mbcWriteRam]; split <;> simp
@[simp] theorem mbcWriteRam_serial (s : State) (n : Nat) (v : Byte) :
    (mbcWriteRam s n v).serial = s.serial := by simp only [mbcWriteRam]; split <;> simp
@[simp] theorem mbcWriteRam_joypad (s : State) (n : Nat) (v : Byte) :
    (mbcWriteRam s n v).joypad = s.joypad := by simp only [mbcWriteRam]; split <;> simp
@[simp] theorem mbcWriteRam_sel (s : State) (n : Nat) (v : Byte) :
    (mbcWriteRam s n v).sel = s.sel := by simp only [mbcWriteRam]; split <;> simp
@[simp] theorem mbcWriteRam_hdma (s : State) (n : Nat) (v : Byte) :
    (mbcWriteRam s n v).hdma = s.hdma := by simp only [mbcWriteRam]; split <;> simp
@[simp] theorem mbcWriteRam_ppu (s : State) (n : Nat) (v : Byte) :
    (mbcWriteRam s n v).ppu = s.ppu := by simp only [mbcWriteRam]; split <;> simp
@[simp] theorem mbcWriteRam_apu (s : State) (n : Nat) (v : Byte) :
    (mbcWriteRam s n v).apu = s.apu := by simp only [mbcWriteRam]; split <;> simp
@[simp] theorem mbcWriteRam_cost (s : State) (n : Nat) (v : Byte) :
    (mbcWriteRam s n v).cost = s.cost := by simp only [mbcWriteRam]; split <;> simp
@[simp] theorem mbcWriteRam_freeCount (s : State) (n : Nat) (v : Byte) :
    (mbcWriteRam s n v).freeCount = s.freeCount := by simp only [mbcWriteRam]; split <;> simp
@[simp] theorem mbcWriteRam_callbacks (s : State) (n : Nat) (v : Byte) :
    (mbcWriteRam s n v).callbacks = s.callbacks := by simp only [mbcWriteRam]; split <;> simp

@[simp] theorem lockedWrite_params (s : State) (a : Word) :
    (lockedWrite s a).params = s.params := by simp only [lockedWrite]; (repeat' split) <;> rfl
@[simp] theorem lockedWrite_cart (s : State) (a : Word) :
    (lockedWrite s a).cart = s.cart := by simp only [lockedWrite]; (repeat' split) <;> rfl
@[simp] theorem lockedWrite_mem (s : State) (a : Word) :
    (lockedWrite s a).mem = s.mem := by simp only [lockedWrite]; (repeat' split) <;> rfl
@[simp] theorem lockedWrite_cpu (s : State) (a : Word) :
    (lockedWrite s a).cpu = s.cpu := by simp only [lockedWrite]; (repeat' split) <;> rfl
@[simp] theorem lockedWrite_irq (s : State) (a : Word) :
    (lockedWrite s a).irq = s.irq := by simp only [lockedWrite]; (repeat' split) <;> rfl
@[simp] theorem lockedWrite_mbc (s : State) (a : Word) :
    (lockedWrite s a).mbc = s.mbc := by simp only [lockedWrite]; (repeat' split) <;> rfl
@[simp] theorem lockedWrite_rtc (s : State) (a : Word) :
    (lockedWrite s a).rtc = s.rtc := by simp only [lockedWrite]; (repeat' split) <;> rfl
@[simp] theorem lockedWrite_timer (s : State) (a : Word) :
    (lockedWrite s a).timer = s.timer := by simp only [lockedWrite]; (repeat' split) <;> rfl
@[simp] theorem lockedWrite_serial (s : State) (a : Word) :
    (lockedWrite s a).serial = s.serial := by simp only [lockedWrite]; (repeat' split) <;> rfl
@[simp] theorem lockedWrite_joypad (s : State) (a : Word) :
    (lockedWrite s a).joypad = s.joypad := by simp only [lockedWrite]; (repeat' split) <;> rfl
@[simp] theorem lockedWrite_sel (s : State) (a : Word) :
    (lockedWrite s a).sel = s.sel := by simp only [lockedWrite]; (repeat' split) <;> rfl
@[simp] theorem lockedWrite_hdma (s : State) (a : Word) :
    (lockedWrite s a).hdma = s.hdma := by simp only [lockedWrite]; (repeat' split) <;> rfl
@[simp] theorem lockedWrite_apu (s : State) (a : Word) :
    (lockedWrite s a).apu = s.apu := by simp only [lockedWrite]; (repeat' split) <;> rfl
@[simp] theorem lockedWrite_cost (s : State) (a : Word) :
    (lockedWrite s a).cost = s.cost := by simp only [lockedWrite]; (repeat' split) <;> rfl
@[simp] theorem lockedWrite_freeCount (s : State) (a : Word) :
    (lockedWrite s a).freeCount = s.freeCount := by simp only [lockedWrite]; (repeat' split) <;> rfl
@[simp] theorem lockedWrite_callbacks (s : State) (a : Word) :
    (lockedWrite s a).callbacks = s.callbacks := by simp only [lockedWrite]; (repeat' split) <;> rfl

@[simp] theorem ioRegWrite_params (s : State) (r : IoReg) (v : Byte) :
    (ioRegWrite s r v).params = s.params := by cases r <;> simp [ioRegWrite]
@[simp] theorem ioRegWrite_cart (s : State) (r : IoReg) (v : Byte) :
    (ioRegWrite s r v).cart = s.cart := by cases r <;> simp [ioRegWrite]
@[simp] theorem ioRegWrite_cpu (s : State) (r : IoReg) (v : Byte) :
    (ioRegWrite s r v).cpu = s.cpu := by cases r <;> simp [ioRegWrite]
@[simp] theorem ioRegWrite_mbc (s : State) (r : IoReg) (v : Byte) :
    (ioRegWrite s r v).mbc = s.mbc := by cases r <;> simp [ioRegWrite]
@[simp] theorem ioRegWrite_rtc (s : State) (r : IoReg) (v : Byte) :
    (ioRegWrite s r v).rtc = s.rtc := by cases r <;> simp [ioRegWrite]
@[simp] theorem ioRegWrite_callbacks (s : State) (r : IoReg) (v : Byte) :
    (ioRegWrite s r v).callbacks = s.callbacks := by cases r <;> simp [ioRegWrite]

@[simp] theorem ioWrite_params (s : State) (n : Nat) (v : Byte) :
    (ioWrite s n v).params = s.params := by simp only [ioWrite]; split <;> simp
@[simp] theorem ioWrite_cart (s : State) (n : Nat) (v : Byte) :
    (ioWrite s n v).cart = s.cart := by simp only [ioWrite]; split <;> simp
@[simp] theorem ioWrite_cpu (s : State) (n : Nat) (v : Byte) :
    (ioWrite s n v).cpu = s.cpu := by simp only [ioWrite]; split <;> simp
@[simp] theorem ioWrite_mbc (s : State) (n : Nat) (v : Byte) :
    (ioWrite s n v).mbc = s.mbc := by simp only [ioWrite]; split <;> simp
@[simp] theorem ioWrite_rtc (s : State) (n : Nat) (v : Byte) :
    (ioWrite s n v).rtc = s.rtc := by simp only [ioWrite]; split <;> simp
@[simp] theorem ioWrite_callbacks (s : State) (n : Nat) (v : Byte) :
    (ioWrite s n v).callbacks = s.callbacks := by simp only [ioWrite]; split <;> simp

@[simp] theorem targetWrite_params (s : State) (t : Target) (v : Byte) :
    (targetWrite s t v).params = s.params := by cases t <;> simp [targetWrite]
@[simp] theorem targetWrite_cart (s : State) (t : Target) (v : Byte) :
    (targetWrite s t v).cart = s.cart := by cases t <;> simp [targetWrite]
@[simp] theorem targetWrite_cpu (s : State) (t : Target) (v : Byte) :
    (targetWrite s t v).cpu = s.cpu := by cases t <;> simp [targetWrite]
@[simp] theorem targetWrite_callbacks (s : State) (t : Target) (v : Byte) :
    (targetWrite s t v).callbacks = s.callbacks := by cases t <;> simp [targetWrite]

@[simp] theorem memWrite_params (s : State) (a : Word) (v : Byte) :
    (memWrite s a v).params = s.params := by simp only [memWrite]; split <;> simp
@[simp] theorem memWrite_cart (s : State) (a : Word) (v : Byte) :
    (memWrite s a v).cart = s.cart := by simp only [memWrite]; split <;> simp
@[simp] theorem memWrite_cpu (s : State) (a : Word) (v : Byte) :
    (memWrite s a v).cpu = s.cpu := by simp only [memWrite]; split <;> simp
@[simp] theorem memWrite_callbacks (s : State) (a : Word) (v : Byte) :
    (memWrite s a v).callbacks = s.callbacks := by simp only [memWrite]; split <;> simp

@[simp] theorem pushByte_params (s : State) (v : Byte) : (pushByte s v).params = s.params := by simp [pushByte]
@[simp] theorem pushByte_cart (s : State) (v : Byte) : (pushByte s v).cart = s.cart := by simp [pushByte]
@[simp] theorem pushByte_callbacks (s : State) (v : Byte) :
    (pushByte s v).callbacks = s.callbacks := by simp [pushByte]

@[simp] theorem push16_params (s : State) (v : Word) : (push16 s v).params = s.params := by simp [push16]
@[simp] theorem push16_cart (s : State) (v : Word) : (push16 s v).cart = s.cart := by simp [push16]
@[simp] theorem push16_callbacks (s : State) (v : Word) : (push16 s v).callbacks = s.callbacks := by simp [push16]

@[simp] theorem write16_params (s : State) (a v : Word) : (write16 s a v).params = s.params := by simp [write16]
@[simp] theorem write16_cart (s : State) (a v : Word) : (write16 s a v).cart = s.cart := by simp [write16]
@[simp] theorem write16_cpu (s : State) (a v : Word) : (write16 s a v).cpu = s.cpu := by simp [write16]
@[simp] theorem write16_callbacks (s : State) (a v : Word) :
    (write16 s a v).callbacks = s.callbacks := by simp [write16]

@[simp] theorem writeAtHL_params (s : State) (v : Byte) : (writeAtHL s v).params = s.params := by simp [writeAtHL]
@[simp] theorem writeAtHL_cart (s : State) (v : Byte) : (writeAtHL s v).cart = s.cart := by simp [writeAtHL]
@[simp] theorem writeAtHL_cpu (s : State) (v : Byte) : (writeAtHL s v).cpu = s.cpu := by simp [writeAtHL]
@[simp] theorem writeAtHL_callbacks (s : State) (v : Byte) :
    (writeAtHL s v).callbacks = s.callbacks := by simp [writeAtHL]

@[simp] theorem dispatchInterrupt_params (s : State) :
    (dispatchInterrupt s).params = s.params := by simp [dispatchInterrupt]
@[simp] theorem dispatchInterrupt_cart (s : State) :
    (dispatchInterrupt s).cart = s.cart := by simp [dispatchInterrupt]
@[simp] theorem dispatchInterrupt_callbacks (s : State) :
    (dispatchInterrupt s).callbacks = s.callbacks := by simp [dispatchInterrupt]

@[simp] theorem finishInstr_params (s : State) (pend : Bool) :
    (finishInstr pend s).params = s.params := by simp only [finishInstr]; split <;> rfl
@[simp] theorem finishInstr_cart (s : State) (pend : Bool) :
    (finishInstr pend s).cart = s.cart := by simp only [finishInstr]; split <;> rfl
@[simp] theorem finishInstr_mem (s : State) (pend : Bool) :
    (finishInstr pend s).mem = s.mem := by simp only [finishInstr]; split <;> rfl
@[simp] theorem finishInstr_irq (s : State) (pend : Bool) :
    (finishInstr pend s).irq = s.irq := by simp only [finishInstr]; split <;> rfl
@[simp] theorem finishInstr_mbc (s : State) (pend : Bool) :
    (finishInstr pend s).mbc = s.mbc := by simp only [finishInstr]; split <;> rfl
@[simp] theorem finishInstr_rtc (s : State) (pend : Bool) :
    (finishInstr pend s).rtc = s.rtc := by simp only [finishInstr]; split <;> rfl
@[simp] theorem finishInstr_timer (s : State) (pend : Bool) :
    (finishInstr pend s).timer = s.timer := by simp only [finishInstr]; split <;> rfl
@[simp] theorem finishInstr_serial (s : State) (pend : Bool) :
    (finishInstr pend s).serial = s.serial := by simp only [finishInstr]; split <;> rfl
@[simp] theorem finishInstr_joypad (s : State) (pend : Bool) :
    (finishInstr pend s).joypad = s.joypad := by simp only [finishInstr]; split <;> rfl
@[simp] theorem finishInstr_sel (s : State) (pend : Bool) :
    (finishInstr pend s).sel = s.sel := by simp only [finishInstr]; split <;> rfl
@[simp] theorem finishInstr_hdma (s : State) (pend : Bool) :
    (finishInstr pend s).hdma = s.hdma := by simp only [finishInstr]; split <;> rfl
@[simp] theorem finishInstr_ppu (s : State) (pend : Bool) :
    (finishInstr pend s).ppu = s.ppu := by simp only [finishInstr]; split <;> rfl
@[simp] theorem finishInstr_apu (s : State) (pend : Bool) :
    (finishInstr pend s).apu = s.apu := by simp only [finishInstr]; split <;> rfl
@[simp] theorem finishInstr_cost (s : State) (pend : Bool) :
    (finishInstr pend s).cost = s.cost := by simp only [finishInstr]; split <;> rfl
@[simp] theorem finishInstr_freeCount (s : State) (pend : Bool) :
    (finishInstr pend s).freeCount = s.freeCount := by simp only [finishInstr]; split <;> rfl
@[simp] theorem finishInstr_callbacks (s : State) (pend : Bool) :
    (finishInstr pend s).callbacks = s.callbacks := by simp only [finishInstr]; split <;> rfl

@[simp] theorem finishStep_params (s : State) (fast : Bool) :
    (finishStep fast s).params = s.params := by simp [finishStep]
@[simp] theorem finishStep_cart (s : State) (fast : Bool) : (finishStep fast s).cart = s.cart := by simp [finishStep]
@[simp] theorem finishStep_mbc (s : State) (fast : Bool) : (finishStep fast s).mbc = s.mbc := by simp [finishStep]
@[simp] theorem finishStep_joypad (s : State) (fast : Bool) :
    (finishStep fast s).joypad = s.joypad := by simp [finishStep]
@[simp] theorem finishStep_sel (s : State) (fast : Bool) : (finishStep fast s).sel = s.sel := by simp [finishStep]
@[simp] theorem finishStep_cost (s : State) (fast : Bool) : (finishStep fast s).cost = s.cost := by simp [finishStep]

@[simp] theorem haltedStep_params (s : State) :
    (haltedStep s).params = s.params := by simp only [haltedStep]; split <;> rfl
@[simp] theorem haltedStep_cart (s : State) : (haltedStep s).cart = s.cart := by simp only [haltedStep]; split <;> rfl
@[simp] theorem haltedStep_mem (s : State) : (haltedStep s).mem = s.mem := by simp only [haltedStep]; split <;> rfl
@[simp] theorem haltedStep_irq (s : State) : (haltedStep s).irq = s.irq := by simp only [haltedStep]; split <;> rfl
@[simp] theorem haltedStep_mbc (s : State) : (haltedStep s).mbc = s.mbc := by simp only [haltedStep]; split <;> rfl
@[simp] theorem haltedStep_rtc (s : State) : (haltedStep s).rtc = s.rtc := by simp only [haltedStep]; split <;> rfl
@[simp] theorem haltedStep_timer (s : State) :
    (haltedStep s).timer = s.timer := by simp only [haltedStep]; split <;> rfl
@[simp] theorem haltedStep_serial (s : State) :
    (haltedStep s).serial = s.serial := by simp only [haltedStep]; split <;> rfl
@[simp] theorem haltedStep_joypad (s : State) :
    (haltedStep s).joypad = s.joypad := by simp only [haltedStep]; split <;> rfl
@[simp] theorem haltedStep_sel (s : State) : (haltedStep s).sel = s.sel := by simp only [haltedStep]; split <;> rfl
@[simp] theorem haltedStep_hdma (s : State) : (haltedStep s).hdma = s.hdma := by simp only [haltedStep]; split <;> rfl
@[simp] theorem haltedStep_ppu (s : State) : (haltedStep s).ppu = s.ppu := by simp only [haltedStep]; split <;> rfl
@[simp] theorem haltedStep_apu (s : State) : (haltedStep s).apu = s.apu := by simp only [haltedStep]; split <;> rfl
@[simp] theorem haltedStep_freeCount (s : State) :
    (haltedStep s).freeCount = s.freeCount := by simp only [haltedStep]; split <;> rfl
@[simp] theorem haltedStep_callbacks (s : State) :
    (haltedStep s).callbacks = s.callbacks := by simp only [haltedStep]; split <;> rfl

@[simp] theorem stoppedStep_params (s : State) :
    (stoppedStep s).params = s.params := by simp only [stoppedStep]; split <;> rfl
@[simp] theorem stoppedStep_cart (s : State) :
    (stoppedStep s).cart = s.cart := by simp only [stoppedStep]; split <;> rfl
@[simp] theorem stoppedStep_mem (s : State) : (stoppedStep s).mem = s.mem := by simp only [stoppedStep]; split <;> rfl
@[simp] theorem stoppedStep_irq (s : State) : (stoppedStep s).irq = s.irq := by simp only [stoppedStep]; split <;> rfl
@[simp] theorem stoppedStep_mbc (s : State) : (stoppedStep s).mbc = s.mbc := by simp only [stoppedStep]; split <;> rfl
@[simp] theorem stoppedStep_rtc (s : State) : (stoppedStep s).rtc = s.rtc := by simp only [stoppedStep]; split <;> rfl
@[simp] theorem stoppedStep_timer (s : State) :
    (stoppedStep s).timer = s.timer := by simp only [stoppedStep]; split <;> rfl
@[simp] theorem stoppedStep_serial (s : State) :
    (stoppedStep s).serial = s.serial := by simp only [stoppedStep]; split <;> rfl
@[simp] theorem stoppedStep_joypad (s : State) :
    (stoppedStep s).joypad = s.joypad := by simp only [stoppedStep]; split <;> rfl
@[simp] theorem stoppedStep_sel (s : State) : (stoppedStep s).sel = s.sel := by simp only [stoppedStep]; split <;> rfl
@[simp] theorem stoppedStep_hdma (s : State) :
    (stoppedStep s).hdma = s.hdma := by simp only [stoppedStep]; split <;> rfl
@[simp] theorem stoppedStep_ppu (s : State) : (stoppedStep s).ppu = s.ppu := by simp only [stoppedStep]; split <;> rfl
@[simp] theorem stoppedStep_apu (s : State) : (stoppedStep s).apu = s.apu := by simp only [stoppedStep]; split <;> rfl
@[simp] theorem stoppedStep_freeCount (s : State) :
    (stoppedStep s).freeCount = s.freeCount := by simp only [stoppedStep]; split <;> rfl
@[simp] theorem stoppedStep_callbacks (s : State) :
    (stoppedStep s).callbacks = s.callbacks := by simp only [stoppedStep]; split <;> rfl

/-- A push moves SP down by two and writes no other part of the CPU (R9, R34). -/
@[simp] theorem pushByte_cpu (s : State) (v : Byte) : (pushByte s v).cpu = { s.cpu with sp := s.cpu.sp - 1 } := by
  simp [pushByte, setSp]

@[simp] theorem push16_cpu (s : State) (v : Word) : (push16 s v).cpu = { s.cpu with sp := s.cpu.sp - 2 } := by
  simp [push16]
  bv_omega

/-- The CPU after an interrupt dispatch (R603). -/
theorem dispatchInterrupt_cpu (s : State) :
    (dispatchInterrupt s).cpu =
      { s.cpu with
        ime := false, eiPending := false, halted := false, haltBug := false, sp := s.cpu.sp - 2
        pc := vectorOf (lowestBit (pendingIrq s)) } := by
  simp [dispatchInterrupt, setPc, acknowledge]

/-- The device window leaves the CPU, but for the cycle count (R610). -/
theorem finishStep_cpu (fast : Bool) (s : State) :
    (finishStep fast s).cpu = { s.cpu with cycleCount := s.cpu.cycleCount + s.cost } := by
  simp [finishStep]

end Sys2Proof.Machine
end

