-- ==== Sys2Proof/Laws/Exec.lean ====
section
/-! SUPPORT. Said once, what an instruction can do: it changes registers, flags and hidden CPU bits, spends whole
M-cycles, writes memory through `memWrite`, zeroes the divider (STOP) and clears the armed speed switch (STOP). A property
that these moves keep, every instruction keeps (`exec_post`), and every step that devices and dispatch keep too
(`step_post`). -/

namespace Sys2Proof.Machine

/-- The moves an instruction is made of, as moves that keep a property. No move changes the recorded fault or the cycle
count, and a spent cost is a multiple of 4 T-cycles (R820). -/
structure ExecClosed (P : State → Prop) : Prop where
  cpu : ∀ (s : State) (c : Cpu) (k m : Nat), c.fault = s.cpu.fault → c.cycleCount = s.cpu.cycleCount →
    k = s.cost + 4 * m → P s → P { s with cpu := c, cost := k }
  write : ∀ (s : State) (a : Word) (v : Byte), P s → P (memWrite s a v)
  divider : ∀ s : State, P s → P (setDivider s 0)
  armed : ∀ (s : State) (b : Bool), P s → P { s with sel := { s.sel with speedArmed := b } }

namespace ExecClosed

variable {P : State → Prop} (C : ExecClosed P) {s : State} {cost : Nat}

include C

/-- A move of the CPU alone. -/
theorem cpuOnly (c : Cpu) (hf : c.fault = s.cpu.fault) (hc : c.cycleCount = s.cpu.cycleCount) (h : P s) :
    P { s with cpu := c } := C.cpu s c s.cost 0 hf hc rfl h

theorem spend (h : P s) (hc : cost % 4 = 0) : P (Machine.spend s cost) :=
  C.cpu s s.cpu (s.cost + cost) (cost / 4) rfl rfl (by omega) h

theorem writeReg (r : Reg8) (v : Byte) (h : P s) : P (Machine.writeReg s r v) := by
  cases r <;> exact C.cpuOnly _ rfl rfl h

theorem setFlags (f : Flags) (h : P s) : P (Machine.setFlags s f) := C.cpuOnly _ rfl rfl h

theorem setPc (t : Word) (h : P s) : P (Machine.setPc s t) := C.cpuOnly _ rfl rfl h

theorem setSp (v : Word) (h : P s) : P (Machine.setSp s v) := C.cpuOnly _ rfl rfl h

theorem writePair (p : Pair) (v : Word) (h : P s) : P (Machine.writePair s p v) := by
  cases p <;> exact C.cpuOnly _ rfl rfl h

theorem writeStackPair (p : StackPair) (v : Word) (h : P s) : P (Machine.writeStackPair s p v) := by
  cases p <;> exact C.cpuOnly _ rfl rfl h

theorem fetch8 (h : P s) : P (Machine.fetch8 s).2 := C.cpuOnly _ rfl rfl h

theorem placeWrite (p : Place) (v : Byte) (h : P s) : P (Machine.placeWrite s p v) := by
  cases p
  · exact C.writeReg _ v h
  · exact C.write _ _ _ h

theorem write16 (a v : Word) (h : P s) : P (Machine.write16 s a v) := C.write _ _ _ (C.write _ _ _ h)

theorem pushByte (v : Byte) (h : P s) : P (Machine.pushByte s v) := C.write _ _ _ (C.setSp _ h)

theorem push16 (v : Word) (h : P s) : P (Machine.push16 s v) := C.pushByte _ (C.pushByte _ h)

theorem popPc (h : P s) : P (Machine.popPc s) := C.setPc _ (C.setSp _ h)

theorem callTo (t : Word) (h : P s) : P (Machine.callTo s t) := C.setPc _ (C.push16 _ h)

theorem loadReg (dst : Reg8) (o : Source) (h : P s) (hc : cost % 4 = 0) : P (Machine.loadReg dst o cost s) :=
  C.spend (C.writeReg _ _ h) hc

theorem storeHL (o : Source) (h : P s) (hc : cost % 4 = 0) : P (Machine.storeHL o cost s) :=
  C.spend (C.write _ _ _ h) hc

theorem loadA (a : Address) (h : P s) (hc : cost % 4 = 0) : P (Machine.loadA a cost s) :=
  C.spend (C.writeReg _ _ h) hc

theorem storeA (a : Address) (h : P s) (hc : cost % 4 = 0) : P (Machine.storeA a cost s) :=
  C.spend (C.write _ _ _ h) hc

theorem loadAStep (w : Word) (h : P s) (hc : cost % 4 = 0) : P (Machine.loadAStep w cost s) :=
  C.spend (C.writePair _ _ (C.writeReg _ _ h)) hc

theorem storeAStep (w : Word) (h : P s) (hc : cost % 4 = 0) : P (Machine.storeAStep w cost s) :=
  C.spend (C.writePair _ _ (C.write _ _ _ h)) hc

theorem loadPair (p : Pair) (v : Word) (h : P s) (hc : cost % 4 = 0) : P (Machine.loadPair p v cost s) :=
  C.spend (C.writePair _ _ h) hc

theorem storeSp (a : Word) (h : P s) (hc : cost % 4 = 0) : P (Machine.storeSp a cost s) :=
  C.spend (C.write16 _ _ h) hc

theorem loadSpHL (h : P s) (hc : cost % 4 = 0) : P (Machine.loadSpHL cost s) := C.spend (C.setSp _ h) hc

theorem loadHLSp (e : Byte) (h : P s) (hc : cost % 4 = 0) : P (Machine.loadHLSp e cost s) :=
  C.spend (C.setFlags _ (C.writePair _ _ h)) hc

theorem pushPair (p : StackPair) (h : P s) (hc : cost % 4 = 0) : P (Machine.pushPair p cost s) :=
  C.spend (C.push16 _ h) hc

theorem popPair (p : StackPair) (h : P s) (hc : cost % 4 = 0) : P (Machine.popPair p cost s) :=
  C.spend (C.writeStackPair _ _ (C.setSp _ h)) hc

theorem aluA (op : AluOp) (o : Source) (h : P s) (hc : cost % 4 = 0) : P (Machine.aluA op o cost s) :=
  C.spend (C.setFlags _ (C.writeReg _ _ h)) hc

theorem incPlace (p : Place) (h : P s) (hc : cost % 4 = 0) : P (Machine.incPlace p cost s) :=
  C.spend (C.setFlags _ (C.placeWrite _ _ h)) hc

theorem decPlace (p : Place) (h : P s) (hc : cost % 4 = 0) : P (Machine.decPlace p cost s) :=
  C.spend (C.setFlags _ (C.placeWrite _ _ h)) hc

theorem decimalAdjust (h : P s) (hc : cost % 4 = 0) : P (Machine.decimalAdjust cost s) :=
  C.spend (C.setFlags _ (C.writeReg _ _ h)) hc

theorem complementA (h : P s) (hc : cost % 4 = 0) : P (Machine.complementA cost s) :=
  C.spend (C.setFlags _ (C.writeReg _ _ h)) hc

theorem setCarry (h : P s) (hc : cost % 4 = 0) : P (Machine.setCarry cost s) := C.spend (C.setFlags _ h) hc

theorem complementCarry (h : P s) (hc : cost % 4 = 0) : P (Machine.complementCarry cost s) :=
  C.spend (C.setFlags _ h) hc

theorem addToHL (p : Pair) (h : P s) (hc : cost % 4 = 0) : P (Machine.addToHL p cost s) :=
  C.spend (C.setFlags _ (C.writePair _ _ h)) hc

theorem stepPair (p : Pair) (w : Word) (h : P s) (hc : cost % 4 = 0) : P (Machine.stepPair p w cost s) :=
  C.spend (C.writePair _ _ h) hc

theorem addToSp (e : Byte) (h : P s) (hc : cost % 4 = 0) : P (Machine.addToSp e cost s) :=
  C.spend (C.setFlags _ (C.setSp _ h)) hc

theorem rotateA (op : RotOp) (h : P s) (hc : cost % 4 = 0) : P (Machine.rotateA op cost s) :=
  C.spend (C.setFlags _ (C.writeReg _ _ h)) hc

theorem rotatePlace (op : RotOp) (p : Place) (h : P s) (hc : cost % 4 = 0) : P (Machine.rotatePlace op p cost s) :=
  C.spend (C.setFlags _ (C.placeWrite _ _ h)) hc

theorem testBit (b : Nat) (p : Place) (h : P s) (hc : cost % 4 = 0) : P (Machine.testBit b p cost s) :=
  C.spend (C.setFlags _ h) hc

theorem resetBit (b : Nat) (p : Place) (h : P s) (hc : cost % 4 = 0) : P (Machine.resetBit b p cost s) :=
  C.spend (C.placeWrite _ _ h) hc

theorem setBit (b : Nat) (p : Place) (h : P s) (hc : cost % 4 = 0) : P (Machine.setBit b p cost s) :=
  C.spend (C.placeWrite _ _ h) hc

theorem conditional (cc : Cond) {taken : State → State} {costNot : Nat} (ht : P (taken s)) (h : P s)
    (hc : cost % 4 = 0) (hn : costNot % 4 = 0) : P (Machine.conditional cc taken cost costNot s) := by
  unfold Machine.conditional
  split
  · exact C.spend ht hc
  · exact C.spend h hn

theorem jumpTo (t : Word) (h : P s) (hc : cost % 4 = 0) : P (Machine.jumpTo t cost s) := C.spend (C.setPc _ h) hc

theorem jumpIf (cc : Cond) (t : Word) {costNot : Nat} (h : P s) (hc : cost % 4 = 0) (hn : costNot % 4 = 0) :
    P (Machine.jumpIf cc t cost costNot s) := C.conditional cc (C.setPc _ h) h hc hn

theorem jumpHL (h : P s) (hc : cost % 4 = 0) : P (Machine.jumpHL cost s) := C.spend (C.setPc _ h) hc

theorem jumpRel (e : Byte) (h : P s) (hc : cost % 4 = 0) : P (Machine.jumpRel e cost s) := C.spend (C.setPc _ h) hc

theorem jumpRelIf (cc : Cond) (e : Byte) {costNot : Nat} (h : P s) (hc : cost % 4 = 0) (hn : costNot % 4 = 0) :
    P (Machine.jumpRelIf cc e cost costNot s) := C.conditional cc (C.setPc _ h) h hc hn

theorem callSub (t : Word) (h : P s) (hc : cost % 4 = 0) : P (Machine.callSub t cost s) := C.spend (C.callTo _ h) hc

theorem callSubIf (cc : Cond) (t : Word) {costNot : Nat} (h : P s) (hc : cost % 4 = 0) (hn : costNot % 4 = 0) :
    P (Machine.callSubIf cc t cost costNot s) := C.conditional cc (C.callTo _ h) h hc hn

theorem returnSub (h : P s) (hc : cost % 4 = 0) : P (Machine.returnSub cost s) := C.spend (C.popPc h) hc

theorem returnSubIf (cc : Cond) {costNot : Nat} (h : P s) (hc : cost % 4 = 0) (hn : costNot % 4 = 0) :
    P (Machine.returnSubIf cc cost costNot s) := C.conditional cc (C.popPc h) h hc hn

theorem returnInt (h : P s) (hc : cost % 4 = 0) : P (Machine.returnInt cost s) :=
  C.spend (C.cpuOnly (s := Machine.popPc s) _ rfl rfl (C.popPc h)) hc

theorem doNothing (h : P s) : P (Machine.doNothing s) := C.spend h rfl

theorem haltCpu (h : P s) : P (Machine.haltCpu s) := by
  unfold Machine.haltCpu
  split <;> exact C.spend (C.cpuOnly _ rfl rfl h) rfl

theorem stopCpu (n : Byte) (h : P s) : P (Machine.stopCpu n s) := by
  unfold Machine.stopCpu
  have h := C.divider s h
  generalize setDivider s 0 = t at h ⊢
  dsimp only
  split
  · exact C.spend (C.cpuOnly (s := { t with sel := { t.sel with speedArmed := false } })
      { t.cpu with doubleSpeed := !t.cpu.doubleSpeed } rfl rfl (C.armed t false h)) rfl
  · exact C.spend (C.cpuOnly _ rfl rfl h) rfl

theorem disableInterrupts (h : P s) : P (Machine.disableInterrupts s) := C.spend (C.cpuOnly _ rfl rfl h) rfl

theorem enableInterrupts (h : P s) : P (Machine.enableInterrupts s) := C.spend (C.cpuOnly _ rfl rfl h) rfl

theorem runCb (op : Byte) (h : P s) : P (Machine.runCb op s) := by
  unfold Machine.runCb
  dsimp only
  split
  · exact C.rotatePlace _ _ h (by split <;> rfl)
  · exact C.testBit _ _ h (by split <;> rfl)
  · exact C.resetBit _ _ h (by split <;> rfl)
  · exact C.setBit _ _ h (by split <;> rfl)

theorem runPrefixed (h : P s) : P (Machine.runPrefixed s) := C.runCb _ (C.fetch8 h)

theorem fetchInstr (h : P s) : P (Machine.fetchInstr s).2 := by
  unfold Machine.fetchInstr
  dsimp only
  split
  · exact C.fetch8 h
  · exact C.fetch8 (C.fetch8 h)
  · exact C.fetch8 (C.fetch8 (C.fetch8 h))

theorem finishInstr (pend : Bool) (h : P s) : P (Machine.finishInstr pend s) := by
  unfold Machine.finishInstr
  split
  · exact C.cpuOnly _ rfl rfl h
  · exact h

end ExecClosed

/-- What an outcome's next state, if any, satisfies. -/
def Post (P : State → Prop) (r : Result) : Prop := ∀ t, r = .next t → P t

theorem post_next {P : State → Prop} {t : State} (h : P t) : Post P (.next t) := by
  intro u hu
  cases hu
  exact h

theorem post_fault {P : State → Prop} {r : Fault} : Post P (.fault r) := by
  intro u hu
  cases hu

/-- Every instruction keeps what its moves keep. -/
theorem exec_post {P : State → Prop} (C : ExecClosed P) (i : Instr) (s : State) (h : P s) : Post P (exec i s) :=
  match i with
  | .nop => post_next (C.doNothing h)
  | .ldBCd16 _ => post_next (C.loadPair _ _ h rfl)
  | .ldAtBCA => post_next (C.storeA _ h rfl)
  | .incBC => post_next (C.stepPair _ _ h rfl)
  | .incB => post_next (C.incPlace _ h rfl)
  | .decB => post_next (C.decPlace _ h rfl)
  | .ldBd8 _ => post_next (C.loadReg _ _ h rfl)
  | .rlca => post_next (C.rotateA _ h rfl)
  | .ldAtA16SP _ => post_next (C.storeSp _ h rfl)
  | .addHLBC => post_next (C.addToHL _ h rfl)
  | .ldAAtBC => post_next (C.loadA _ h rfl)
  | .decBC => post_next (C.stepPair _ _ h rfl)
  | .incC => post_next (C.incPlace _ h rfl)
  | .decC => post_next (C.decPlace _ h rfl)
  | .ldCd8 _ => post_next (C.loadReg _ _ h rfl)
  | .rrca => post_next (C.rotateA _ h rfl)
  | .stop _ => post_next (C.stopCpu _ h)
  | .ldDEd16 _ => post_next (C.loadPair _ _ h rfl)
  | .ldAtDEA => post_next (C.storeA _ h rfl)
  | .incDE => post_next (C.stepPair _ _ h rfl)
  | .incD => post_next (C.incPlace _ h rfl)
  | .decD => post_next (C.decPlace _ h rfl)
  | .ldDd8 _ => post_next (C.loadReg _ _ h rfl)
  | .rla => post_next (C.rotateA _ h rfl)
  | .jr _ => post_next (C.jumpRel _ h rfl)
  | .addHLDE => post_next (C.addToHL _ h rfl)
  | .ldAAtDE => post_next (C.loadA _ h rfl)
  | .decDE => post_next (C.stepPair _ _ h rfl)
  | .incE => post_next (C.incPlace _ h rfl)
  | .decE => post_next (C.decPlace _ h rfl)
  | .ldEd8 _ => post_next (C.loadReg _ _ h rfl)
  | .rra => post_next (C.rotateA _ h rfl)
  | .jrNZ _ => post_next (C.jumpRelIf _ _ h rfl rfl)
  | .ldHLd16 _ => post_next (C.loadPair _ _ h rfl)
  | .ldAtHLIncA => post_next (C.storeAStep _ h rfl)
  | .incHL => post_next (C.stepPair _ _ h rfl)
  | .incH => post_next (C.incPlace _ h rfl)
  | .decH => post_next (C.decPlace _ h rfl)
  | .ldHd8 _ => post_next (C.loadReg _ _ h rfl)
  | .daa => post_next (C.decimalAdjust h rfl)
  | .jrZ _ => post_next (C.jumpRelIf _ _ h rfl rfl)
  | .addHLHL => post_next (C.addToHL _ h rfl)
  | .ldAAtHLInc => post_next (C.loadAStep _ h rfl)
  | .decHL => post_next (C.stepPair _ _ h rfl)
  | .incL => post_next (C.incPlace _ h rfl)
  | .decL => post_next (C.decPlace _ h rfl)
  | .ldLd8 _ => post_next (C.loadReg _ _ h rfl)
  | .cpl => post_next (C.complementA h rfl)
  | .jrNC _ => post_next (C.jumpRelIf _ _ h rfl rfl)
  | .ldSPd16 _ => post_next (C.loadPair _ _ h rfl)
  | .ldAtHLDecA => post_next (C.storeAStep _ h rfl)
  | .incSP => post_next (C.stepPair _ _ h rfl)
  | .incAtHL => post_next (C.incPlace _ h rfl)
  | .decAtHL => post_next (C.decPlace _ h rfl)
  | .ldAtHLd8 _ => post_next (C.storeHL _ h rfl)
  | .scf => post_next (C.setCarry h rfl)
  | .jrC _ => post_next (C.jumpRelIf _ _ h rfl rfl)
  | .addHLSP => post_next (C.addToHL _ h rfl)
  | .ldAAtHLDec => post_next (C.loadAStep _ h rfl)
  | .decSP => post_next (C.stepPair _ _ h rfl)
  | .incA => post_next (C.incPlace _ h rfl)
  | .decA => post_next (C.decPlace _ h rfl)
  | .ldAd8 _ => post_next (C.loadReg _ _ h rfl)
  | .ccf => post_next (C.complementCarry h rfl)
  | .ldBB => post_next (C.loadReg _ _ h rfl)
  | .ldBC => post_next (C.loadReg _ _ h rfl)
  | .ldBD => post_next (C.loadReg _ _ h rfl)
  | .ldBE => post_next (C.loadReg _ _ h rfl)
  | .ldBH => post_next (C.loadReg _ _ h rfl)
  | .ldBL => post_next (C.loadReg _ _ h rfl)
  | .ldBAtHL => post_next (C.loadReg _ _ h rfl)
  | .ldBA => post_next (C.loadReg _ _ h rfl)
  | .ldCB => post_next (C.loadReg _ _ h rfl)
  | .ldCC => post_next (C.loadReg _ _ h rfl)
  | .ldCD => post_next (C.loadReg _ _ h rfl)
  | .ldCE => post_next (C.loadReg _ _ h rfl)
  | .ldCH => post_next (C.loadReg _ _ h rfl)
  | .ldCL => post_next (C.loadReg _ _ h rfl)
  | .ldCAtHL => post_next (C.loadReg _ _ h rfl)
  | .ldCA => post_next (C.loadReg _ _ h rfl)
  | .ldDB => post_next (C.loadReg _ _ h rfl)
  | .ldDC => post_next (C.loadReg _ _ h rfl)
  | .ldDD => post_next (C.loadReg _ _ h rfl)
  | .ldDE => post_next (C.loadReg _ _ h rfl)
  | .ldDH => post_next (C.loadReg _ _ h rfl)
  | .ldDL => post_next (C.loadReg _ _ h rfl)
  | .ldDAtHL => post_next (C.loadReg _ _ h rfl)
  | .ldDA => post_next (C.loadReg _ _ h rfl)
  | .ldEB => post_next (C.loadReg _ _ h rfl)
  | .ldEC => post_next (C.loadReg _ _ h rfl)
  | .ldED => post_next (C.loadReg _ _ h rfl)
  | .ldEE => post_next (C.loadReg _ _ h rfl)
  | .ldEH => post_next (C.loadReg _ _ h rfl)
  | .ldEL => post_next (C.loadReg _ _ h rfl)
  | .ldEAtHL => post_next (C.loadReg _ _ h rfl)
  | .ldEA => post_next (C.loadReg _ _ h rfl)
  | .ldHB => post_next (C.loadReg _ _ h rfl)
  | .ldHC => post_next (C.loadReg _ _ h rfl)
  | .ldHD => post_next (C.loadReg _ _ h rfl)
  | .ldHE => post_next (C.loadReg _ _ h rfl)
  | .ldHH => post_next (C.loadReg _ _ h rfl)
  | .ldHL => post_next (C.loadReg _ _ h rfl)
  | .ldHAtHL => post_next (C.loadReg _ _ h rfl)
  | .ldHA => post_next (C.loadReg _ _ h rfl)
  | .ldLB => post_next (C.loadReg _ _ h rfl)
  | .ldLC => post_next (C.loadReg _ _ h rfl)
  | .ldLD => post_next (C.loadReg _ _ h rfl)
  | .ldLE => post_next (C.loadReg _ _ h rfl)
  | .ldLH => post_next (C.loadReg _ _ h rfl)
  | .ldLL => post_next (C.loadReg _ _ h rfl)
  | .ldLAtHL => post_next (C.loadReg _ _ h rfl)
  | .ldLA => post_next (C.loadReg _ _ h rfl)
  | .ldAtHLB => post_next (C.storeHL _ h rfl)
  | .ldAtHLC => post_next (C.storeHL _ h rfl)
  | .ldAtHLD => post_next (C.storeHL _ h rfl)
  | .ldAtHLE => post_next (C.storeHL _ h rfl)
  | .ldAtHLH => post_next (C.storeHL _ h rfl)
  | .ldAtHLL => post_next (C.storeHL _ h rfl)
  | .halt => post_next (C.haltCpu h)
  | .ldAtHLA => post_next (C.storeHL _ h rfl)
  | .ldAB => post_next (C.loadReg _ _ h rfl)
  | .ldAC => post_next (C.loadReg _ _ h rfl)
  | .ldAD => post_next (C.loadReg _ _ h rfl)
  | .ldAE => post_next (C.loadReg _ _ h rfl)
  | .ldAH => post_next (C.loadReg _ _ h rfl)
  | .ldAL => post_next (C.loadReg _ _ h rfl)
  | .ldAAtHL => post_next (C.loadReg _ _ h rfl)
  | .ldAA => post_next (C.loadReg _ _ h rfl)
  | .addAB => post_next (C.aluA _ _ h rfl)
  | .addAC => post_next (C.aluA _ _ h rfl)
  | .addAD => post_next (C.aluA _ _ h rfl)
  | .addAE => post_next (C.aluA _ _ h rfl)
  | .addAH => post_next (C.aluA _ _ h rfl)
  | .addAL => post_next (C.aluA _ _ h rfl)
  | .addAAtHL => post_next (C.aluA _ _ h rfl)
  | .addAA => post_next (C.aluA _ _ h rfl)
  | .adcAB => post_next (C.aluA _ _ h rfl)
  | .adcAC => post_next (C.aluA _ _ h rfl)
  | .adcAD => post_next (C.aluA _ _ h rfl)
  | .adcAE => post_next (C.aluA _ _ h rfl)
  | .adcAH => post_next (C.aluA _ _ h rfl)
  | .adcAL => post_next (C.aluA _ _ h rfl)
  | .adcAAtHL => post_next (C.aluA _ _ h rfl)
  | .adcAA => post_next (C.aluA _ _ h rfl)
  | .subB => post_next (C.aluA _ _ h rfl)
  | .subC => post_next (C.aluA _ _ h rfl)
  | .subD => post_next (C.aluA _ _ h rfl)
  | .subE => post_next (C.aluA _ _ h rfl)
  | .subH => post_next (C.aluA _ _ h rfl)
  | .subL => post_next (C.aluA _ _ h rfl)
  | .subAtHL => post_next (C.aluA _ _ h rfl)
  | .subA => post_next (C.aluA _ _ h rfl)
  | .sbcAB => post_next (C.aluA _ _ h rfl)
  | .sbcAC => post_next (C.aluA _ _ h rfl)
  | .sbcAD => post_next (C.aluA _ _ h rfl)
  | .sbcAE => post_next (C.aluA _ _ h rfl)
  | .sbcAH => post_next (C.aluA _ _ h rfl)
  | .sbcAL => post_next (C.aluA _ _ h rfl)
  | .sbcAAtHL => post_next (C.aluA _ _ h rfl)
  | .sbcAA => post_next (C.aluA _ _ h rfl)
  | .andB => post_next (C.aluA _ _ h rfl)
  | .andC => post_next (C.aluA _ _ h rfl)
  | .andD => post_next (C.aluA _ _ h rfl)
  | .andE => post_next (C.aluA _ _ h rfl)
  | .andH => post_next (C.aluA _ _ h rfl)
  | .andL => post_next (C.aluA _ _ h rfl)
  | .andAtHL => post_next (C.aluA _ _ h rfl)
  | .andA => post_next (C.aluA _ _ h rfl)
  | .xorB => post_next (C.aluA _ _ h rfl)
  | .xorC => post_next (C.aluA _ _ h rfl)
  | .xorD => post_next (C.aluA _ _ h rfl)
  | .xorE => post_next (C.aluA _ _ h rfl)
  | .xorH => post_next (C.aluA _ _ h rfl)
  | .xorL => post_next (C.aluA _ _ h rfl)
  | .xorAtHL => post_next (C.aluA _ _ h rfl)
  | .xorA => post_next (C.aluA _ _ h rfl)
  | .orB => post_next (C.aluA _ _ h rfl)
  | .orC => post_next (C.aluA _ _ h rfl)
  | .orD => post_next (C.aluA _ _ h rfl)
  | .orE => post_next (C.aluA _ _ h rfl)
  | .orH => post_next (C.aluA _ _ h rfl)
  | .orL => post_next (C.aluA _ _ h rfl)
  | .orAtHL => post_next (C.aluA _ _ h rfl)
  | .orA => post_next (C.aluA _ _ h rfl)
  | .cpB => post_next (C.aluA _ _ h rfl)
  | .cpC => post_next (C.aluA _ _ h rfl)
  | .cpD => post_next (C.aluA _ _ h rfl)
  | .cpE => post_next (C.aluA _ _ h rfl)
  | .cpH => post_next (C.aluA _ _ h rfl)
  | .cpL => post_next (C.aluA _ _ h rfl)
  | .cpAtHL => post_next (C.aluA _ _ h rfl)
  | .cpA => post_next (C.aluA _ _ h rfl)
  | .retNZ => post_next (C.returnSubIf _ h rfl rfl)
  | .popBC => post_next (C.popPair _ h rfl)
  | .jpNZ _ => post_next (C.jumpIf _ _ h rfl rfl)
  | .jp _ => post_next (C.jumpTo _ h rfl)
  | .callNZ _ => post_next (C.callSubIf _ _ h rfl rfl)
  | .pushBC => post_next (C.pushPair _ h rfl)
  | .addAd8 _ => post_next (C.aluA _ _ h rfl)
  | .rst00 => post_next (C.callSub _ h rfl)
  | .retZ => post_next (C.returnSubIf _ h rfl rfl)
  | .ret => post_next (C.returnSub h rfl)
  | .jpZ _ => post_next (C.jumpIf _ _ h rfl rfl)
  | .callZ _ => post_next (C.callSubIf _ _ h rfl rfl)
  | .call _ => post_next (C.callSub _ h rfl)
  | .adcAd8 _ => post_next (C.aluA _ _ h rfl)
  | .rst08 => post_next (C.callSub _ h rfl)
  | .retNC => post_next (C.returnSubIf _ h rfl rfl)
  | .popDE => post_next (C.popPair _ h rfl)
  | .jpNC _ => post_next (C.jumpIf _ _ h rfl rfl)
  | .illegalD3 => post_fault
  | .callNC _ => post_next (C.callSubIf _ _ h rfl rfl)
  | .pushDE => post_next (C.pushPair _ h rfl)
  | .subd8 _ => post_next (C.aluA _ _ h rfl)
  | .rst10 => post_next (C.callSub _ h rfl)
  | .retC => post_next (C.returnSubIf _ h rfl rfl)
  | .reti => post_next (C.returnInt h rfl)
  | .jpC _ => post_next (C.jumpIf _ _ h rfl rfl)
  | .illegalDB => post_fault
  | .callC _ => post_next (C.callSubIf _ _ h rfl rfl)
  | .illegalDD => post_fault
  | .sbcAd8 _ => post_next (C.aluA _ _ h rfl)
  | .rst18 => post_next (C.callSub _ h rfl)
  | .ldhAtA8A _ => post_next (C.storeA _ h rfl)
  | .popHL => post_next (C.popPair _ h rfl)
  | .ldhAtCA => post_next (C.storeA _ h rfl)
  | .illegalE3 => post_fault
  | .illegalE4 => post_fault
  | .pushHL => post_next (C.pushPair _ h rfl)
  | .andd8 _ => post_next (C.aluA _ _ h rfl)
  | .rst20 => post_next (C.callSub _ h rfl)
  | .addSPe8 _ => post_next (C.addToSp _ h rfl)
  | .jpHL => post_next (C.jumpHL h rfl)
  | .ldAtA16A _ => post_next (C.storeA _ h rfl)
  | .illegalEB => post_fault
  | .illegalEC => post_fault
  | .illegalED => post_fault
  | .xord8 _ => post_next (C.aluA _ _ h rfl)
  | .rst28 => post_next (C.callSub _ h rfl)
  | .ldhAAtA8 _ => post_next (C.loadA _ h rfl)
  | .popAF => post_next (C.popPair _ h rfl)
  | .ldhAAtC => post_next (C.loadA _ h rfl)
  | .di => post_next (C.disableInterrupts h)
  | .illegalF4 => post_fault
  | .pushAF => post_next (C.pushPair _ h rfl)
  | .ord8 _ => post_next (C.aluA _ _ h rfl)
  | .rst30 => post_next (C.callSub _ h rfl)
  | .ldHLSPe8 _ => post_next (C.loadHLSp _ h rfl)
  | .ldSPHL => post_next (C.loadSpHL h rfl)
  | .ldAAtA16 _ => post_next (C.loadA _ h rfl)
  | .ei => post_next (C.enableInterrupts h)
  | .illegalFC => post_fault
  | .illegalFD => post_fault
  | .cpd8 _ => post_next (C.aluA _ _ h rfl)
  | .rst38 => post_next (C.callSub _ h rfl)
  | .prefixCb => post_next (C.runPrefixed h)
  | .rlcB => post_next (C.rotatePlace _ _ h rfl)
  | .rlcC => post_next (C.rotatePlace _ _ h rfl)
  | .rlcD => post_next (C.rotatePlace _ _ h rfl)
  | .rlcE => post_next (C.rotatePlace _ _ h rfl)
  | .rlcH => post_next (C.rotatePlace _ _ h rfl)
  | .rlcL => post_next (C.rotatePlace _ _ h rfl)
  | .rlcAtHL => post_next (C.rotatePlace _ _ h rfl)
  | .rlcA => post_next (C.rotatePlace _ _ h rfl)
  | .rrcB => post_next (C.rotatePlace _ _ h rfl)
  | .rrcC => post_next (C.rotatePlace _ _ h rfl)
  | .rrcD => post_next (C.rotatePlace _ _ h rfl)
  | .rrcE => post_next (C.rotatePlace _ _ h rfl)
  | .rrcH => post_next (C.rotatePlace _ _ h rfl)
  | .rrcL => post_next (C.rotatePlace _ _ h rfl)
  | .rrcAtHL => post_next (C.rotatePlace _ _ h rfl)
  | .rrcA => post_next (C.rotatePlace _ _ h rfl)
  | .rlB => post_next (C.rotatePlace _ _ h rfl)
  | .rlC => post_next (C.rotatePlace _ _ h rfl)
  | .rlD => post_next (C.rotatePlace _ _ h rfl)
  | .rlE => post_next (C.rotatePlace _ _ h rfl)
  | .rlH => post_next (C.rotatePlace _ _ h rfl)
  | .rlL => post_next (C.rotatePlace _ _ h rfl)
  | .rlAtHL => post_next (C.rotatePlace _ _ h rfl)
  | .rlA => post_next (C.rotatePlace _ _ h rfl)
  | .rrB => post_next (C.rotatePlace _ _ h rfl)
  | .rrC => post_next (C.rotatePlace _ _ h rfl)
  | .rrD => post_next (C.rotatePlace _ _ h rfl)
  | .rrE => post_next (C.rotatePlace _ _ h rfl)
  | .rrH => post_next (C.rotatePlace _ _ h rfl)
  | .rrL => post_next (C.rotatePlace _ _ h rfl)
  | .rrAtHL => post_next (C.rotatePlace _ _ h rfl)
  | .rrA => post_next (C.rotatePlace _ _ h rfl)
  | .slaB => post_next (C.rotatePlace _ _ h rfl)
  | .slaC => post_next (C.rotatePlace _ _ h rfl)
  | .slaD => post_next (C.rotatePlace _ _ h rfl)
  | .slaE => post_next (C.rotatePlace _ _ h rfl)
  | .slaH => post_next (C.rotatePlace _ _ h rfl)
  | .slaL => post_next (C.rotatePlace _ _ h rfl)
  | .slaAtHL => post_next (C.rotatePlace _ _ h rfl)
  | .slaA => post_next (C.rotatePlace _ _ h rfl)
  | .sraB => post_next (C.rotatePlace _ _ h rfl)
  | .sraC => post_next (C.rotatePlace _ _ h rfl)
  | .sraD => post_next (C.rotatePlace _ _ h rfl)
  | .sraE => post_next (C.rotatePlace _ _ h rfl)
  | .sraH => post_next (C.rotatePlace _ _ h rfl)
  | .sraL => post_next (C.rotatePlace _ _ h rfl)
  | .sraAtHL => post_next (C.rotatePlace _ _ h rfl)
  | .sraA => post_next (C.rotatePlace _ _ h rfl)
  | .swapB => post_next (C.rotatePlace _ _ h rfl)
  | .swapC => post_next (C.rotatePlace _ _ h rfl)
  | .swapD => post_next (C.rotatePlace _ _ h rfl)
  | .swapE => post_next (C.rotatePlace _ _ h rfl)
  | .swapH => post_next (C.rotatePlace _ _ h rfl)
  | .swapL => post_next (C.rotatePlace _ _ h rfl)
  | .swapAtHL => post_next (C.rotatePlace _ _ h rfl)
  | .swapA => post_next (C.rotatePlace _ _ h rfl)
  | .srlB => post_next (C.rotatePlace _ _ h rfl)
  | .srlC => post_next (C.rotatePlace _ _ h rfl)
  | .srlD => post_next (C.rotatePlace _ _ h rfl)
  | .srlE => post_next (C.rotatePlace _ _ h rfl)
  | .srlH => post_next (C.rotatePlace _ _ h rfl)
  | .srlL => post_next (C.rotatePlace _ _ h rfl)
  | .srlAtHL => post_next (C.rotatePlace _ _ h rfl)
  | .srlA => post_next (C.rotatePlace _ _ h rfl)
  | .bit0B => post_next (C.testBit _ _ h rfl)
  | .bit0C => post_next (C.testBit _ _ h rfl)
  | .bit0D => post_next (C.testBit _ _ h rfl)
  | .bit0E => post_next (C.testBit _ _ h rfl)
  | .bit0H => post_next (C.testBit _ _ h rfl)
  | .bit0L => post_next (C.testBit _ _ h rfl)
  | .bit0AtHL => post_next (C.testBit _ _ h rfl)
  | .bit0A => post_next (C.testBit _ _ h rfl)
  | .bit1B => post_next (C.testBit _ _ h rfl)
  | .bit1C => post_next (C.testBit _ _ h rfl)
  | .bit1D => post_next (C.testBit _ _ h rfl)
  | .bit1E => post_next (C.testBit _ _ h rfl)
  | .bit1H => post_next (C.testBit _ _ h rfl)
  | .bit1L => post_next (C.testBit _ _ h rfl)
  | .bit1AtHL => post_next (C.testBit _ _ h rfl)
  | .bit1A => post_next (C.testBit _ _ h rfl)
  | .bit2B => post_next (C.testBit _ _ h rfl)
  | .bit2C => post_next (C.testBit _ _ h rfl)
  | .bit2D => post_next (C.testBit _ _ h rfl)
  | .bit2E => post_next (C.testBit _ _ h rfl)
  | .bit2H => post_next (C.testBit _ _ h rfl)
  | .bit2L => post_next (C.testBit _ _ h rfl)
  | .bit2AtHL => post_next (C.testBit _ _ h rfl)
  | .bit2A => post_next (C.testBit _ _ h rfl)
  | .bit3B => post_next (C.testBit _ _ h rfl)
  | .bit3C => post_next (C.testBit _ _ h rfl)
  | .bit3D => post_next (C.testBit _ _ h rfl)
  | .bit3E => post_next (C.testBit _ _ h rfl)
  | .bit3H => post_next (C.testBit _ _ h rfl)
  | .bit3L => post_next (C.testBit _ _ h rfl)
  | .bit3AtHL => post_next (C.testBit _ _ h rfl)
  | .bit3A => post_next (C.testBit _ _ h rfl)
  | .bit4B => post_next (C.testBit _ _ h rfl)
  | .bit4C => post_next (C.testBit _ _ h rfl)
  | .bit4D => post_next (C.testBit _ _ h rfl)
  | .bit4E => post_next (C.testBit _ _ h rfl)
  | .bit4H => post_next (C.testBit _ _ h rfl)
  | .bit4L => post_next (C.testBit _ _ h rfl)
  | .bit4AtHL => post_next (C.testBit _ _ h rfl)
  | .bit4A => post_next (C.testBit _ _ h rfl)
  | .bit5B => post_next (C.testBit _ _ h rfl)
  | .bit5C => post_next (C.testBit _ _ h rfl)
  | .bit5D => post_next (C.testBit _ _ h rfl)
  | .bit5E => post_next (C.testBit _ _ h rfl)
  | .bit5H => post_next (C.testBit _ _ h rfl)
  | .bit5L => post_next (C.testBit _ _ h rfl)
  | .bit5AtHL => post_next (C.testBit _ _ h rfl)
  | .bit5A => post_next (C.testBit _ _ h rfl)
  | .bit6B => post_next (C.testBit _ _ h rfl)
  | .bit6C => post_next (C.testBit _ _ h rfl)
  | .bit6D => post_next (C.testBit _ _ h rfl)
  | .bit6E => post_next (C.testBit _ _ h rfl)
  | .bit6H => post_next (C.testBit _ _ h rfl)
  | .bit6L => post_next (C.testBit _ _ h rfl)
  | .bit6AtHL => post_next (C.testBit _ _ h rfl)
  | .bit6A => post_next (C.testBit _ _ h rfl)
  | .bit7B => post_next (C.testBit _ _ h rfl)
  | .bit7C => post_next (C.testBit _ _ h rfl)
  | .bit7D => post_next (C.testBit _ _ h rfl)
  | .bit7E => post_next (C.testBit _ _ h rfl)
  | .bit7H => post_next (C.testBit _ _ h rfl)
  | .bit7L => post_next (C.testBit _ _ h rfl)
  | .bit7AtHL => post_next (C.testBit _ _ h rfl)
  | .bit7A => post_next (C.testBit _ _ h rfl)
  | .res0B => post_next (C.resetBit _ _ h rfl)
  | .res0C => post_next (C.resetBit _ _ h rfl)
  | .res0D => post_next (C.resetBit _ _ h rfl)
  | .res0E => post_next (C.resetBit _ _ h rfl)
  | .res0H => post_next (C.resetBit _ _ h rfl)
  | .res0L => post_next (C.resetBit _ _ h rfl)
  | .res0AtHL => post_next (C.resetBit _ _ h rfl)
  | .res0A => post_next (C.resetBit _ _ h rfl)
  | .res1B => post_next (C.resetBit _ _ h rfl)
  | .res1C => post_next (C.resetBit _ _ h rfl)
  | .res1D => post_next (C.resetBit _ _ h rfl)
  | .res1E => post_next (C.resetBit _ _ h rfl)
  | .res1H => post_next (C.resetBit _ _ h rfl)
  | .res1L => post_next (C.resetBit _ _ h rfl)
  | .res1AtHL => post_next (C.resetBit _ _ h rfl)
  | .res1A => post_next (C.resetBit _ _ h rfl)
  | .res2B => post_next (C.resetBit _ _ h rfl)
  | .res2C => post_next (C.resetBit _ _ h rfl)
  | .res2D => post_next (C.resetBit _ _ h rfl)
  | .res2E => post_next (C.resetBit _ _ h rfl)
  | .res2H => post_next (C.resetBit _ _ h rfl)
  | .res2L => post_next (C.resetBit _ _ h rfl)
  | .res2AtHL => post_next (C.resetBit _ _ h rfl)
  | .res2A => post_next (C.resetBit _ _ h rfl)
  | .res3B => post_next (C.resetBit _ _ h rfl)
  | .res3C => post_next (C.resetBit _ _ h rfl)
  | .res3D => post_next (C.resetBit _ _ h rfl)
  | .res3E => post_next (C.resetBit _ _ h rfl)
  | .res3H => post_next (C.resetBit _ _ h rfl)
  | .res3L => post_next (C.resetBit _ _ h rfl)
  | .res3AtHL => post_next (C.resetBit _ _ h rfl)
  | .res3A => post_next (C.resetBit _ _ h rfl)
  | .res4B => post_next (C.resetBit _ _ h rfl)
  | .res4C => post_next (C.resetBit _ _ h rfl)
  | .res4D => post_next (C.resetBit _ _ h rfl)
  | .res4E => post_next (C.resetBit _ _ h rfl)
  | .res4H => post_next (C.resetBit _ _ h rfl)
  | .res4L => post_next (C.resetBit _ _ h rfl)
  | .res4AtHL => post_next (C.resetBit _ _ h rfl)
  | .res4A => post_next (C.resetBit _ _ h rfl)
  | .res5B => post_next (C.resetBit _ _ h rfl)
  | .res5C => post_next (C.resetBit _ _ h rfl)
  | .res5D => post_next (C.resetBit _ _ h rfl)
  | .res5E => post_next (C.resetBit _ _ h rfl)
  | .res5H => post_next (C.resetBit _ _ h rfl)
  | .res5L => post_next (C.resetBit _ _ h rfl)
  | .res5AtHL => post_next (C.resetBit _ _ h rfl)
  | .res5A => post_next (C.resetBit _ _ h rfl)
  | .res6B => post_next (C.resetBit _ _ h rfl)
  | .res6C => post_next (C.resetBit _ _ h rfl)
  | .res6D => post_next (C.resetBit _ _ h rfl)
  | .res6E => post_next (C.resetBit _ _ h rfl)
  | .res6H => post_next (C.resetBit _ _ h rfl)
  | .res6L => post_next (C.resetBit _ _ h rfl)
  | .res6AtHL => post_next (C.resetBit _ _ h rfl)
  | .res6A => post_next (C.resetBit _ _ h rfl)
  | .res7B => post_next (C.resetBit _ _ h rfl)
  | .res7C => post_next (C.resetBit _ _ h rfl)
  | .res7D => post_next (C.resetBit _ _ h rfl)
  | .res7E => post_next (C.resetBit _ _ h rfl)
  | .res7H => post_next (C.resetBit _ _ h rfl)
  | .res7L => post_next (C.resetBit _ _ h rfl)
  | .res7AtHL => post_next (C.resetBit _ _ h rfl)
  | .res7A => post_next (C.resetBit _ _ h rfl)
  | .set0B => post_next (C.setBit _ _ h rfl)
  | .set0C => post_next (C.setBit _ _ h rfl)
  | .set0D => post_next (C.setBit _ _ h rfl)
  | .set0E => post_next (C.setBit _ _ h rfl)
  | .set0H => post_next (C.setBit _ _ h rfl)
  | .set0L => post_next (C.setBit _ _ h rfl)
  | .set0AtHL => post_next (C.setBit _ _ h rfl)
  | .set0A => post_next (C.setBit _ _ h rfl)
  | .set1B => post_next (C.setBit _ _ h rfl)
  | .set1C => post_next (C.setBit _ _ h rfl)
  | .set1D => post_next (C.setBit _ _ h rfl)
  | .set1E => post_next (C.setBit _ _ h rfl)
  | .set1H => post_next (C.setBit _ _ h rfl)
  | .set1L => post_next (C.setBit _ _ h rfl)
  | .set1AtHL => post_next (C.setBit _ _ h rfl)
  | .set1A => post_next (C.setBit _ _ h rfl)
  | .set2B => post_next (C.setBit _ _ h rfl)
  | .set2C => post_next (C.setBit _ _ h rfl)
  | .set2D => post_next (C.setBit _ _ h rfl)
  | .set2E => post_next (C.setBit _ _ h rfl)
  | .set2H => post_next (C.setBit _ _ h rfl)
  | .set2L => post_next (C.setBit _ _ h rfl)
  | .set2AtHL => post_next (C.setBit _ _ h rfl)
  | .set2A => post_next (C.setBit _ _ h rfl)
  | .set3B => post_next (C.setBit _ _ h rfl)
  | .set3C => post_next (C.setBit _ _ h rfl)
  | .set3D => post_next (C.setBit _ _ h rfl)
  | .set3E => post_next (C.setBit _ _ h rfl)
  | .set3H => post_next (C.setBit _ _ h rfl)
  | .set3L => post_next (C.setBit _ _ h rfl)
  | .set3AtHL => post_next (C.setBit _ _ h rfl)
  | .set3A => post_next (C.setBit _ _ h rfl)
  | .set4B => post_next (C.setBit _ _ h rfl)
  | .set4C => post_next (C.setBit _ _ h rfl)
  | .set4D => post_next (C.setBit _ _ h rfl)
  | .set4E => post_next (C.setBit _ _ h rfl)
  | .set4H => post_next (C.setBit _ _ h rfl)
  | .set4L => post_next (C.setBit _ _ h rfl)
  | .set4AtHL => post_next (C.setBit _ _ h rfl)
  | .set4A => post_next (C.setBit _ _ h rfl)
  | .set5B => post_next (C.setBit _ _ h rfl)
  | .set5C => post_next (C.setBit _ _ h rfl)
  | .set5D => post_next (C.setBit _ _ h rfl)
  | .set5E => post_next (C.setBit _ _ h rfl)
  | .set5H => post_next (C.setBit _ _ h rfl)
  | .set5L => post_next (C.setBit _ _ h rfl)
  | .set5AtHL => post_next (C.setBit _ _ h rfl)
  | .set5A => post_next (C.setBit _ _ h rfl)
  | .set6B => post_next (C.setBit _ _ h rfl)
  | .set6C => post_next (C.setBit _ _ h rfl)
  | .set6D => post_next (C.setBit _ _ h rfl)
  | .set6E => post_next (C.setBit _ _ h rfl)
  | .set6H => post_next (C.setBit _ _ h rfl)
  | .set6L => post_next (C.setBit _ _ h rfl)
  | .set6AtHL => post_next (C.setBit _ _ h rfl)
  | .set6A => post_next (C.setBit _ _ h rfl)
  | .set7B => post_next (C.setBit _ _ h rfl)
  | .set7C => post_next (C.setBit _ _ h rfl)
  | .set7D => post_next (C.setBit _ _ h rfl)
  | .set7E => post_next (C.setBit _ _ h rfl)
  | .set7H => post_next (C.setBit _ _ h rfl)
  | .set7L => post_next (C.setBit _ _ h rfl)
  | .set7AtHL => post_next (C.setBit _ _ h rfl)
  | .set7A => post_next (C.setBit _ _ h rfl)

/-- What an instruction's next state satisfies. -/
theorem exec_keeps {P : State → Prop} (C : ExecClosed P) {i : Instr} {s t : State} (h : P s)
    (he : exec i s = .next t) : P t := exec_post C i s h t he

/-- The moves of a whole step, as moves that keep a property. -/
structure StepClosed (P : State → Prop) : Prop extends ExecClosed P where
  /-- The model's own fields at the start of a step. -/
  fresh : ∀ (s : State) (cs : List Callback), P s → P { s with cost := 0, callbacks := cs }
  /-- The IF acknowledge of a dispatch. -/
  flag : ∀ (s : State) (f : BitVec 5), P s → P { s with irq := { s.irq with flag := f } }
  /-- The fixed cost of a dispatch. -/
  dispatchCost : ∀ (s u : State), P s → P u → P { u with cost := s.cost + 20 }
  /-- One T-cycle of the devices. -/
  device : ∀ (s : State) (fast : Bool) (k : Nat), P s → P (deviceTick fast k s)
  /-- The cycle count. -/
  count : ∀ (s : State) (n : Nat), P s → P { s with cpu := { s.cpu with cycleCount := n } }

namespace StepClosed

variable {P : State → Prop} (C : StepClosed P) {s : State}

include C

theorem deviceTicks (fast : Bool) (n k : Nat) (h : P s) : P (Machine.deviceTicks fast n k s) := by
  induction n generalizing s k with
  | zero => exact h
  | succ n ih => exact ih _ (C.device s fast k h)

theorem finishStep (fast : Bool) (h : P s) : P (Machine.finishStep fast s) := C.count _ _ (C.deviceTicks _ _ _ h)

theorem haltedStep (h : P s) : P (Machine.haltedStep s) := by
  unfold Machine.haltedStep
  split
  · exact C.spend (C.cpuOnly _ rfl rfl h) rfl
  · exact C.spend h rfl

theorem stoppedStep (h : P s) : P (Machine.stoppedStep s) := by
  unfold Machine.stoppedStep
  refine C.count _ _ (C.spend ?_ rfl)
  split
  · exact C.cpuOnly _ rfl rfl h
  · exact h

theorem dispatchInterrupt (h : P s) : P (Machine.dispatchInterrupt s) := by
  unfold Machine.dispatchInterrupt
  refine C.dispatchCost s _ h (C.setPc _ (C.push16 _ ?_))
  have hf := C.flag s (s.irq.flag &&& ~~~(1#5 <<< lowestBit (pendingIrq s))) h
  exact C.cpuOnly (s := { s with irq := { s.irq with flag := s.irq.flag &&& ~~~(1#5 <<< lowestBit (pendingIrq s)) } })
    { s.cpu with ime := false, eiPending := false, halted := false, haltBug := false } rfl rfl hf

end StepClosed

/-- Every step keeps what its moves keep. -/
theorem step_keeps {P : State → Prop} (C : StepClosed P) {s t : State} (h : P s) (hs : step s = .next t) : P t := by
  have h0 : P (beginStep s) := C.fresh s [] h
  unfold step at hs
  generalize beginStep s = b at h0 hs
  dsimp only at hs
  split at hs
  · cases hs
  · cases hs
    exact C.stoppedStep h0
  · cases hs
    exact C.finishStep _ (C.dispatchInterrupt h0)
  · cases hs
    exact C.finishStep _ (C.haltedStep h0)
  · split at hs
    · rename_i u hu
      cases hs
      exact C.finishStep _ (C.finishInstr _ (exec_keeps C.toExecClosed (C.fetchInstr h0) hu))
    · cases hs
    · cases hs

end Sys2Proof.Machine
end

