-- ==== Sys2Proof/Laws/Store.lean ====
section
/-! SUPPORT. The laws of sparse storage: read after write, and that every operation keeps the canonical form. -/

namespace Sys2Proof.Machine

variable {α : Type}

theorem storeRead_storePut (b : α) (m : List (Nat × α)) (k j : Nat) (v : α) :
    storeRead b (storePut m k v) j = if j = k then v else storeRead b m j := by
  induction m with
  | nil => simp [storePut, storeRead]
  | cons e rest ih =>
    obtain ⟨i, w⟩ := e
    simp only [storePut]
    split
    · simp only [storeRead]
    · split
      · subst i
        simp only [storeRead]
        split <;> simp_all
      · simp only [storeRead, ih]
        split <;> split <;> simp_all

theorem storeRead_storeErase (b : α) (m : List (Nat × α)) (k j : Nat) :
    storeRead b (storeErase m k) j = if j = k then b else storeRead b m j := by
  induction m with
  | nil => simp [storeErase, storeRead]
  | cons e rest ih =>
    obtain ⟨i, w⟩ := e
    simp only [storeErase]
    split
    · subst i
      simp only [storeRead, ih]
      split <;> simp_all
    · simp only [storeRead, ih]
      split <;> split <;> simp_all

/-- Reading after a write: the value written at its key, what was there at every other key. -/
theorem storeRead_storeWrite [DecidableEq α] (b : α) (m : List (Nat × α)) (k j : Nat) (v : α) :
    storeRead b (storeWrite b m k v) j = if j = k then v else storeRead b m j := by
  unfold storeWrite
  split
  · subst v
    exact storeRead_storeErase b m k j
  · exact storeRead_storePut b m k j v

theorem keysAbove_storePut (m : List (Nat × α)) (j k : Nat) (v : α) (hk : j < k) (h : keysAbove j m = true) :
    keysAbove j (storePut m k v) = true := by
  induction m with
  | nil => simp [storePut, keysAbove, hk]
  | cons e rest ih =>
    obtain ⟨i, w⟩ := e
    simp only [keysAbove, Bool.and_eq_true, decide_eq_true_eq] at h
    simp only [storePut]
    split
    · simp [keysAbove, hk, h]
    · split
      · simp [keysAbove, hk, h]
      · simp [keysAbove, h, ih h.2]

theorem keysAbove_storeErase (m : List (Nat × α)) (j k : Nat) (h : keysAbove j m = true) :
    keysAbove j (storeErase m k) = true := by
  induction m with
  | nil => rfl
  | cons e rest ih =>
    obtain ⟨i, w⟩ := e
    simp only [keysAbove, Bool.and_eq_true, decide_eq_true_eq] at h
    simp only [storeErase]
    split
    · exact ih h.2
    · simp [keysAbove, h, ih h.2]

theorem keysAbove_mono (m : List (Nat × α)) (j k : Nat) (hk : j < k) (h : keysAbove k m = true) :
    keysAbove j m = true := by
  induction m with
  | nil => rfl
  | cons e rest ih =>
    obtain ⟨i, w⟩ := e
    simp only [keysAbove, Bool.and_eq_true, decide_eq_true_eq] at h ⊢
    exact ⟨Nat.lt_trans hk h.1, ih h.2⟩

theorem storeWf_storePut [DecidableEq α] (b : α) (m : List (Nat × α)) (k : Nat) (v : α) (hv : v ≠ b)
    (h : storeWf b m = true) : storeWf b (storePut m k v) = true := by
  induction m with
  | nil => simp [storePut, storeWf, keysAbove, hv]
  | cons e rest ih =>
    obtain ⟨i, w⟩ := e
    simp only [storeWf, Bool.and_eq_true, decide_eq_true_eq] at h
    simp only [storePut]
    split
    · rename_i hlt
      simp [storeWf, keysAbove, hv, h, hlt, keysAbove_mono rest k i hlt h.1.2]
    · split
      · subst i
        simp [storeWf, hv, h]
      · have hi : i < k := by omega
        simp [storeWf, h, ih h.2, keysAbove_storePut rest i k v hi h.1.2]

theorem storeWf_storeErase [DecidableEq α] (b : α) (m : List (Nat × α)) (k : Nat) (h : storeWf b m = true) :
    storeWf b (storeErase m k) = true := by
  induction m with
  | nil => rfl
  | cons e rest ih =>
    obtain ⟨i, w⟩ := e
    simp only [storeWf, Bool.and_eq_true, decide_eq_true_eq] at h
    simp only [storeErase]
    split
    · exact ih h.2
    · simp [storeWf, h, ih h.2, keysAbove_storeErase rest i k h.1.2]

/-- A write keeps the canonical form. -/
theorem storeWf_storeWrite [DecidableEq α] (b : α) (m : List (Nat × α)) (k : Nat) (v : α) (h : storeWf b m = true) :
    storeWf b (storeWrite b m k v) = true := by
  unfold storeWrite
  split
  · exact storeWf_storeErase b m k h
  · rename_i hv
    exact storeWf_storePut b m k v hv h

theorem keysAbove_storeOfList [DecidableEq α] (b : α) (l : List α) (j k : Nat) (h : j < k) :
    keysAbove j (storeOfList b k l) = true := by
  induction l generalizing k with
  | nil => rfl
  | cons v rest ih =>
    simp only [storeOfList]
    split
    · exact ih (k + 1) (by omega)
    · simp [keysAbove, h, ih (k + 1) (by omega)]

/-- A list of values placed from a key on is in canonical form. -/
theorem storeWf_storeOfList [DecidableEq α] (b : α) (k : Nat) (l : List α) :
    storeWf b (storeOfList b k l) = true := by
  induction l generalizing k with
  | nil => rfl
  | cons v rest ih =>
    simp only [storeOfList]
    split
    · exact ih (k + 1)
    · rename_i hv
      simp [storeWf, hv, ih (k + 1), keysAbove_storeOfList b rest k (k + 1) (by omega)]

theorem storeRead_of_keysAbove (b : α) (m : List (Nat × α)) (j k : Nat) (hk : k ≤ j) (h : keysAbove j m = true) :
    storeRead b m k = b := by
  induction m with
  | nil => rfl
  | cons e rest ih =>
    obtain ⟨i, w⟩ := e
    simp only [keysAbove, Bool.and_eq_true, decide_eq_true_eq] at h
    simp only [storeRead]
    rw [if_neg (by omega)]
    exact ih h.2

/-- What a placed list reads as. -/
theorem storeRead_storeOfList [DecidableEq α] (b : α) (k j : Nat) (l : List α) :
    storeRead b (storeOfList b k l) j = if k ≤ j then l.getD (j - k) b else b := by
  induction l generalizing k with
  | nil => simp [storeOfList, storeRead]
  | cons v rest ih =>
    simp only [storeOfList]
    by_cases hj : k + 1 ≤ j
    · have h1 : j - k = (j - (k + 1)) + 1 := by omega
      have h2 : j ≠ k := by omega
      rw [if_pos (show k ≤ j by omega)]
      split <;> simp [storeRead, ih, hj, h1, h2]
    · split
      · rename_i hv
        rw [ih]
        by_cases hk : k = j
        · subst hk
          rw [if_neg (by omega), if_pos (Nat.le_refl k), Nat.sub_self]
          exact hv.symm
        · rw [if_neg (by omega), if_neg (by omega)]
      · simp only [storeRead]
        by_cases hk : j = k
        · subst hk
          simp
        · rw [if_neg hk, if_neg (by omega), ih, if_neg hj]

end Sys2Proof.Machine
end

