-- ==== Sys2Proof/Laws/Memory.lean ====
section
/-! SUPPORT. The laws of memory: one byte read after one byte written; a principle that says once what any write to
memory can do (`PokeClosed`), with the canonical form and the fixed ROM as its two instances; and what a CPU read
depends on. -/

namespace Sys2Proof.Machine

@[simp] theorem cellsOf_withCells_same (m : Memory) (r : Region) (cs : List Host.Cell) :
    cellsOf (withCells m r cs) r = cs := by cases r <;> rfl

theorem cellsOf_withCells_other (m : Memory) (r q : Region) (cs : List Host.Cell) (h : q ≠ r) :
    cellsOf (withCells m r cs) q = cellsOf m q := by
  cases r <;> cases q <;> first | rfl | exact absurd rfl h

/-- Reading a byte after writing a byte: the value at that byte, what was there at every other. -/
theorem peek_poke (s : State) (r q : Region) (i j : Nat) (v : Byte) :
    peek (poke s r i v) q j = if q = r ∧ j = i then v else peek s q j := by
  by_cases h : q = r
  · subst h
    simp [peek, poke, storeRead_storeWrite]
  · simp [peek, poke, cellsOf_withCells_other s.mem r q _ h, h]

theorem peek_poke_same (s : State) (r : Region) (i : Nat) (v : Byte) : peek (poke s r i v) r i = v := by
  simp [peek_poke]

theorem peek_poke_other (s : State) (r q : Region) (i j : Nat) (v : Byte) (h : q ≠ r ∨ j ≠ i) :
    peek (poke s r i v) q j = peek s q j := by
  rw [peek_poke, if_neg]
  rintro ⟨rfl, rfl⟩
  simp at h

/-- A byte depends on the memories alone. -/
theorem peek_congr {s t : State} (h : t.mem = s.mem) (r : Region) (i : Nat) : peek t r i = peek s r i := by
  simp [peek, h]

/-- The canonical form, region by region. -/
theorem Memory.wf_iff (m : Memory) : m.wf = true ↔ ∀ r, storeWf r.blank (cellsOf m r) = true := by
  constructor
  · intro h r
    simp only [Memory.wf, Bool.and_eq_true] at h
    cases r <;> simp [cellsOf, h]
  · intro h
    simp only [Memory.wf, Bool.and_eq_true]
    exact ⟨⟨⟨⟨⟨⟨⟨⟨h .rom, h .cartRam⟩, h .vram⟩, h .wram⟩, h .oam⟩, h .hram⟩, h .bgPal⟩, h .objPal⟩, h .wave⟩

/-- What any byte written outside ROM keeps of the memories. -/
def PokeClosed (P : Memory → Prop) : Prop :=
  ∀ (m : Memory) (r : Region) (i : Nat) (v : Byte), r ≠ .rom → P m →
    P (withCells m r (storeWrite r.blank (cellsOf m r) i v))

/-- The canonical form is kept by every byte written. -/
theorem pokeClosed_wf : PokeClosed fun m => m.wf = true := by
  intro m r i v _ h
  rw [Memory.wf_iff] at h ⊢
  intro q
  by_cases hq : q = r
  · subst hq
    simpa using storeWf_storeWrite _ _ i v (h q)
  · rw [cellsOf_withCells_other m r q _ hq]
    exact h q

/-- The ROM image is kept by every byte written outside it. -/
theorem pokeClosed_rom (rom : List Host.Cell) : PokeClosed fun m => m.rom = rom := by
  intro m r i v hr h
  cases r <;> first | exact absurd rfl hr | exact h

variable {P : Memory → Prop} (hP : PokeClosed P)

include hP

theorem poke_keeps (s : State) (r : Region) (i : Nat) (v : Byte) (hr : r ≠ .rom) (h : P s.mem) :
    P (poke s r i v).mem := hP _ _ _ _ hr h

theorem oamCopy_keeps (s : State) (v : Byte) (is : List Nat) (h : P s.mem) : P (oamCopy s v is).mem := by
  induction is generalizing s with
  | nil => exact h
  | cons i rest ih => exact ih _ (poke_keeps hP s _ _ _ (by decide) h)

theorem dmaWrite_keeps (s : State) (v : Byte) (h : P s.mem) : P (dmaWrite s v).mem := by
  simp only [dmaWrite]
  exact oamCopy_keeps hP _ v _ h

theorem blockCopy_keeps (s : State) (is : List Nat) (h : P s.mem) : P (blockCopy s is).mem := by
  induction is generalizing s with
  | nil => exact h
  | cons i rest ih => exact ih _ (poke_keeps hP s _ _ _ (by decide) h)

omit hP in
theorem hdmaBlock_mem (s : State) : (hdmaBlock s).mem = (blockCopy s (List.range 16)).mem := by
  rw [hdmaBlock]

theorem hdmaBlock_keeps (s : State) (h : P s.mem) : P (hdmaBlock s).mem := by
  rw [hdmaBlock_mem]
  exact blockCopy_keeps hP s _ h

theorem hdmaBlocks_keeps (n : Nat) (s : State) (h : P s.mem) : P (hdmaBlocks n s).mem := by
  induction n generalizing s with
  | zero => exact h
  | succ n ih =>
    simp only [hdmaBlocks]
    split
    · exact ih _ (hdmaBlock_keeps hP s h)
    · exact h

theorem hdma5Write_keeps (s : State) (v : Byte) (h : P s.mem) : P (hdma5Write s v).mem := by
  simp only [hdma5Write]
  (repeat' split)
  · exact h
  · exact h
  · simp only [gdmaRun, spend_mem]
    exact hdmaBlocks_keeps hP _ _ h

theorem mbcWriteRam_keeps (s : State) (n : Nat) (v : Byte) (h : P s.mem) : P (mbcWriteRam s n v).mem := by
  simp only [mbcWriteRam]
  split
  · exact h
  · exact poke_keeps hP s _ _ _ (by decide) h
  · exact poke_keeps hP s _ _ _ (by decide) h
  · exact h

theorem ioRegWrite_keeps (s : State) (r : IoReg) (v : Byte) (h : P s.mem) : P (ioRegWrite s r v).mem := by
  cases r <;>
    simp only [ioRegWrite, p1Write_mem, scWrite_mem, setDivider_mem, tacWrite_mem, lcdcWrite_mem, statWrite_mem,
      lycWrite_mem, bcpdWrite, ocpdWrite] <;>
    first
    | with_reducible exact h
    | with_reducible exact poke_keeps hP s _ _ _ (by decide) h
    | with_reducible exact dmaWrite_keeps hP s v h
    | with_reducible exact hdma5Write_keeps hP s v h

theorem ioWrite_keeps (s : State) (n : Nat) (v : Byte) (h : P s.mem) : P (ioWrite s n v).mem := by
  simp only [ioWrite]
  split
  · exact ioRegWrite_keeps hP s _ v h
  · exact h

omit hP in
/-- The router names a byte of memory only in VRAM, WRAM, OAM or HRAM (R101). -/
theorem route_region {s : State} {a : Word} {r : Region} {i : Nat} (h : route s a = .cell r i) :
    r = .vram ∨ r = .wram ∨ r = .oam ∨ r = .hram := by
  simp only [route] at h
  repeat' split at h
  all_goals simp_all

theorem memWrite_keeps (s : State) (a : Word) (v : Byte) (h : P s.mem) : P (memWrite s a v).mem := by
  simp only [memWrite]
  split
  · simpa using h
  · simp only [targetWrite]
    split
    · simpa using h
    · exact mbcWriteRam_keeps hP s _ v h
    · rename_i r i hr
      exact poke_keeps hP s r i v (by rcases route_region hr with h | h | h | h <;> simp [h]) h
    · exact h
    · exact ioWrite_keeps hP s _ v h
    · exact h

theorem ppuDot_keeps (s : State) (h : P s.mem) : P (ppuDot s).mem := by
  simp only [ppuDot]
  repeat' split
  · simpa using h
  · simpa [scanEnd] using h
  · simp only [statUpdate_mem, drawEnd, hblankHook]
    split
    · exact hdmaBlock_keeps hP _ (by simpa using h)
    · simpa using h
  · simpa using h
  · exact h

theorem deviceTick_keeps (fast : Bool) (k : Nat) (s : State) (h : P s.mem) : P (deviceTick fast k s).mem := by
  simp only [deviceTick]
  split
  · simp only [rtcDot_mem, apuDot_mem]
    exact ppuDot_keeps hP _ (by simpa using h)
  · simpa using h

theorem deviceTicks_keeps (fast : Bool) (n k : Nat) (s : State) (h : P s.mem) : P (deviceTicks fast n k s).mem := by
  induction n generalizing s k with
  | zero => exact h
  | succ n ih => exact ih _ _ (deviceTick_keeps hP fast k s h)

theorem finishStep_keeps (fast : Bool) (s : State) (h : P s.mem) : P (finishStep fast s).mem :=
  deviceTicks_keeps hP _ _ _ s h

omit hP

/-- A CPU write keeps the canonical form of memory. -/
theorem memWrite_wf (s : State) (a : Word) (v : Byte) (h : s.mem.wf = true) : (memWrite s a v).mem.wf = true :=
  memWrite_keeps pokeClosed_wf s a v h

/-- A CPU write never changes the ROM (R103). -/
@[simp] theorem memWrite_rom (s : State) (a : Word) (v : Byte) : (memWrite s a v).mem.rom = s.mem.rom :=
  memWrite_keeps (pokeClosed_rom s.mem.rom) s a v rfl

/-- Reset memory is in canonical form where the image is. -/
theorem resetMemory_wf (rom : List Host.Cell) (h : storeWf Region.rom.blank rom = true) :
    (resetMemory rom).wf = true := by
  rw [Memory.wf_iff]
  intro r
  cases r <;> simp [resetMemory, cellsOf, storeWf]
  exact h

theorem reset_wf : State.reset.mem.wf = true := resetMemory_wf [] rfl

/-- What a CPU read depends on besides the address: everything but the registers, flags and hidden bits other than the
speed bit, and but the model's own fields (R102, R106). -/
structure SameBus (s t : State) : Prop where
  params : t.params = s.params
  cart : t.cart = s.cart
  mem : t.mem = s.mem
  speed : t.cpu.doubleSpeed = s.cpu.doubleSpeed
  irq : t.irq = s.irq
  mbc : t.mbc = s.mbc
  rtc : t.rtc = s.rtc
  timer : t.timer = s.timer
  serial : t.serial = s.serial
  joypad : t.joypad = s.joypad
  sel : t.sel = s.sel
  hdma : t.hdma = s.hdma
  ppu : t.ppu = s.ppu
  apu : t.apu = s.apu

theorem SameBus.cgbMode {s t : State} (h : SameBus s t) : cgbMode t = cgbMode s := by
  simp [Machine.cgbMode, h.params, h.cart]

theorem SameBus.route {s t : State} (h : SameBus s t) (a : Word) : route t a = route s a := by
  have hv : vramBank t = vramBank s := by simp only [vramBank, h.cgbMode, h.sel]
  have hw : wramBank t = wramBank s := by simp only [wramBank, h.cgbMode, h.sel]
  simp only [Machine.route, hv, hw]

theorem SameBus.ioRead {s t : State} (h : SameBus s t) (n : Nat) : ioRead t n = ioRead s n := by
  simp only [Machine.ioRead, h.cgbMode]
  split
  · rename_i r _
    cases r <;>
      simp [ioRegRead, h.joypad, h.serial, h.cgbMode, h.timer, h.irq, h.apu, peek_congr h.mem, h.ppu, h.speed, h.sel,
        h.hdma, statRead, lyRead, lcdOn]
  · rfl

theorem SameBus.memReadNoLock {s t : State} (h : SameBus s t) (a : Word) :
    memReadNoLock t a = memReadNoLock s a := by
  simp only [Machine.memReadNoLock, h.route]
  split
  · simp [mbcReadRom, romIndex, lowRomBank, highRomBank, h.mbc, h.cart, peek_congr h.mem]
  · simp [mbcReadRam, extTarget, ramAt, h.mbc, h.cart, h.rtc, peek_congr h.mem]
  · exact peek_congr h.mem _ _
  · rfl
  · exact h.ioRead _
  · rw [h.irq]

/-- Two states that agree on the bus read the same byte at every address. -/
theorem SameBus.memRead {s t : State} (h : SameBus s t) (a : Word) : memRead t a = memRead s a := by
  simp [Machine.memRead, lockedOut, lcdOn, h.params, h.ppu, h.memReadNoLock]

/-- Changing registers, flags, pc or sp, and the cost, leaves the bus as it was. -/
theorem sameBus_cpu (s : State) (c : Cpu) (k : Nat) (hc : c.doubleSpeed = s.cpu.doubleSpeed) :
    SameBus s { s with cpu := c, cost := k } := by
  constructor <;> first | rfl | exact hc

end Sys2Proof.Machine
end

