-- ==== Sys2Proof/Laws/Frames.lean ====
section
/-! SUPPORT. The frames of the shared moves: what a move of the CPU alone leaves, what a byte poked into memory leaves,
and halves of words as numbers. -/

namespace Sys2Proof.Machine

/-- A move of the CPU and the cost leaves the rest of the world. -/
theorem sameWorld_cpu (s : State) (c : Cpu) (k : Nat) : SameWorld s { s with cpu := c, cost := k } := by
  constructor <;> rfl

/-- A move of the CPU that keeps the speed leaves every read. -/
theorem sameReads_cpu (s : State) (c : Cpu) (k : Nat) (h : c.doubleSpeed = s.cpu.doubleSpeed) :
    SameReads s { s with cpu := c, cost := k } := (sameBus_cpu s c k h).memRead

/-- A move of the CPU that keeps the hidden bits, at a cost. -/
theorem quiet_cpu (s : State) (c : Cpu) (cost : Nat) (h : SameHidden s { s with cpu := c, cost := s.cost + cost }) :
    Quiet s { s with cpu := c, cost := s.cost + cost } cost :=
  ⟨sameWorld_cpu s c _, h, sameReads_cpu s c _ h.doubleSpeed, rfl⟩

/-- A later move of the CPU keeps the frame of a store. -/
theorem storeFrame_cpu (s t : State) (a : Word) (v : Byte) (c : Cpu) (k : Nat)
    (hd : c.doubleSpeed = t.cpu.doubleSpeed) (h : StoreFrame s t a v) :
    StoreFrame s { t with cpu := c, cost := k } a v := by
  intro x hx hl
  obtain ⟨h1, h2⟩ := h x hx hl
  have hr := sameReads_cpu t c k hd
  exact ⟨(hr a).trans h1, fun b hb => (hr b).trans (h2 b hb)⟩

theorem route_poke (s : State) (r : Region) (i : Nat) (v : Byte) (a : Word) : route (poke s r i v) a = route s a := rfl

theorem extTarget_poke (s : State) (r : Region) (i n : Nat) (v : Byte) : extTarget (poke s r i v) n = extTarget s n := rfl

theorem lockedOut_poke (s : State) (r : Region) (i : Nat) (v : Byte) (a : Word) :
    lockedOut (poke s r i v) a = lockedOut s a := rfl

/-- No IO register but wave RAM and the palette data shows a byte of memory. -/
theorem ioRead_poke (s : State) (r : Region) (i : Nat) (v : Byte) (hr : r ≠ .wave ∧ r ≠ .bgPal ∧ r ≠ .objPal) (n : Nat) :
    ioRead (poke s r i v) n = ioRead s n := by
  have hc : cgbMode (poke s r i v) = cgbMode s := rfl
  simp only [Machine.ioRead, hc]
  split
  · rename_i q _
    cases q <;> first
      | rfl
      | (simp only [ioRegRead]
         exact peek_poke_other s r _ _ _ v (.inl (by first | exact hr.1.symm | exact hr.2.1.symm | exact hr.2.2.symm)))
  · rfl

/-- No address of the cartridge is ever locked out. -/
theorem lockedOut_cartridge (s : State) (a : Word) (h : a.toNat < 0x8000 ∨ (0xA000 ≤ a.toNat ∧ a.toNat < 0xC000)) :
    lockedOut s a = false := by
  have h1 : ¬(0x8000 ≤ a.toNat ∧ a.toNat < 0xA000) := by omega
  have h2 : ¬(0xFE00 ≤ a.toNat ∧ a.toNat < 0xFEA0) := by omega
  have h3 : ¬(a = 0xFF69 ∨ a = 0xFF6B) := by rintro (rfl | rfl) <;> simp at h
  simp only [lockedOut, h1, h2, h3, decide_false, Bool.false_and, Bool.or_false, Bool.and_false]

theorem unecho_low (n : Nat) (h : n < 0xE000) : unecho n = n := by
  unfold unecho
  rw [if_neg (by omega)]

/-- Addresses below 0x8000 lead to the MBC. -/
theorem route_rom (s : State) (a : Word) (h : a.toNat < 0x8000) : route s a = .mbc a.toNat := by
  simp only [route, unecho_low a.toNat (by omega), h, if_true]

/-- 0xA000-0xBFFF leads to cartridge RAM or the clock. -/
theorem route_ext (s : State) (a : Word) (h : 0xA000 ≤ a.toNat) (h' : a.toNat < 0xC000) : route s a = .ext a.toNat := by
  have h1 : ¬a.toNat < 0x8000 := by omega
  have h2 : ¬a.toNat < 0xA000 := by omega
  simp only [route, unecho_low a.toNat (by omega), h1, h2, h', if_false, if_true]

/-- Halves of words as numbers. -/
theorem joinBytes_toNat (h l : Byte) : (joinBytes h l).toNat = h.toNat * 256 + l.toNat := by
  simp only [joinBytes]
  refine (BitVec.toNat_append ..).trans ?_
  rw [Nat.shiftLeft_eq, Nat.mul_comm, Nat.two_pow_add_eq_or_of_lt (by omega)]

theorem hiByte_toNat (v : Word) : (hiByte v).toNat = v.toNat / 256 := by
  simp [hiByte, BitVec.extractLsb'_toNat, Nat.shiftRight_eq_div_pow]
  omega

theorem loByte_toNat (v : Word) : (loByte v).toNat = v.toNat % 256 := by simp [loByte]

end Sys2Proof.Machine
end

