-- ==== Sys2Proof/Laws/PerInstr.lean ====
section
/-! SUPPORT. A law of every instruction as syntax: the first byte of its encoding alone tells how many bytes it has
(30_encoding.md R200). One lemma per constructor of Instr. -/

namespace Sys2Proof.Laws.Length

/-- The encoding of a complete instruction has the length its first byte gives (R200). -/
def Statement (i : Instr) : Prop := WellFormed i → (encode i).length = instrLength ((encode i).headD 0)

theorem nop : Statement .nop := fun _ => rfl
theorem ldBCd16 (v : Word) : Statement (.ldBCd16 v) := fun _ => rfl
theorem ldAtBCA : Statement .ldAtBCA := fun _ => rfl
theorem incBC : Statement .incBC := fun _ => rfl
theorem incB : Statement .incB := fun _ => rfl
theorem decB : Statement .decB := fun _ => rfl
theorem ldBd8 (n : Byte) : Statement (.ldBd8 n) := fun _ => rfl
theorem rlca : Statement .rlca := fun _ => rfl
theorem ldAtA16SP (t : Word) : Statement (.ldAtA16SP t) := fun _ => rfl
theorem addHLBC : Statement .addHLBC := fun _ => rfl
theorem ldAAtBC : Statement .ldAAtBC := fun _ => rfl
theorem decBC : Statement .decBC := fun _ => rfl
theorem incC : Statement .incC := fun _ => rfl
theorem decC : Statement .decC := fun _ => rfl
theorem ldCd8 (n : Byte) : Statement (.ldCd8 n) := fun _ => rfl
theorem rrca : Statement .rrca := fun _ => rfl
theorem stop (n : Byte) : Statement (.stop n) := fun _ => rfl
theorem ldDEd16 (v : Word) : Statement (.ldDEd16 v) := fun _ => rfl
theorem ldAtDEA : Statement .ldAtDEA := fun _ => rfl
theorem incDE : Statement .incDE := fun _ => rfl
theorem incD : Statement .incD := fun _ => rfl
theorem decD : Statement .decD := fun _ => rfl
theorem ldDd8 (n : Byte) : Statement (.ldDd8 n) := fun _ => rfl
theorem rla : Statement .rla := fun _ => rfl
theorem jr (e : Byte) : Statement (.jr e) := fun _ => rfl
theorem addHLDE : Statement .addHLDE := fun _ => rfl
theorem ldAAtDE : Statement .ldAAtDE := fun _ => rfl
theorem decDE : Statement .decDE := fun _ => rfl
theorem incE : Statement .incE := fun _ => rfl
theorem decE : Statement .decE := fun _ => rfl
theorem ldEd8 (n : Byte) : Statement (.ldEd8 n) := fun _ => rfl
theorem rra : Statement .rra := fun _ => rfl
theorem jrNZ (e : Byte) : Statement (.jrNZ e) := fun _ => rfl
theorem ldHLd16 (v : Word) : Statement (.ldHLd16 v) := fun _ => rfl
theorem ldAtHLIncA : Statement .ldAtHLIncA := fun _ => rfl
theorem incHL : Statement .incHL := fun _ => rfl
theorem incH : Statement .incH := fun _ => rfl
theorem decH : Statement .decH := fun _ => rfl
theorem ldHd8 (n : Byte) : Statement (.ldHd8 n) := fun _ => rfl
theorem daa : Statement .daa := fun _ => rfl
theorem jrZ (e : Byte) : Statement (.jrZ e) := fun _ => rfl
theorem addHLHL : Statement .addHLHL := fun _ => rfl
theorem ldAAtHLInc : Statement .ldAAtHLInc := fun _ => rfl
theorem decHL : Statement .decHL := fun _ => rfl
theorem incL : Statement .incL := fun _ => rfl
theorem decL : Statement .decL := fun _ => rfl
theorem ldLd8 (n : Byte) : Statement (.ldLd8 n) := fun _ => rfl
theorem cpl : Statement .cpl := fun _ => rfl
theorem jrNC (e : Byte) : Statement (.jrNC e) := fun _ => rfl
theorem ldSPd16 (v : Word) : Statement (.ldSPd16 v) := fun _ => rfl
theorem ldAtHLDecA : Statement .ldAtHLDecA := fun _ => rfl
theorem incSP : Statement .incSP := fun _ => rfl
theorem incAtHL : Statement .incAtHL := fun _ => rfl
theorem decAtHL : Statement .decAtHL := fun _ => rfl
theorem ldAtHLd8 (n : Byte) : Statement (.ldAtHLd8 n) := fun _ => rfl
theorem scf : Statement .scf := fun _ => rfl
theorem jrC (e : Byte) : Statement (.jrC e) := fun _ => rfl
theorem addHLSP : Statement .addHLSP := fun _ => rfl
theorem ldAAtHLDec : Statement .ldAAtHLDec := fun _ => rfl
theorem decSP : Statement .decSP := fun _ => rfl
theorem incA : Statement .incA := fun _ => rfl
theorem decA : Statement .decA := fun _ => rfl
theorem ldAd8 (n : Byte) : Statement (.ldAd8 n) := fun _ => rfl
theorem ccf : Statement .ccf := fun _ => rfl
theorem ldBB : Statement .ldBB := fun _ => rfl
theorem ldBC : Statement .ldBC := fun _ => rfl
theorem ldBD : Statement .ldBD := fun _ => rfl
theorem ldBE : Statement .ldBE := fun _ => rfl
theorem ldBH : Statement .ldBH := fun _ => rfl
theorem ldBL : Statement .ldBL := fun _ => rfl
theorem ldBAtHL : Statement .ldBAtHL := fun _ => rfl
theorem ldBA : Statement .ldBA := fun _ => rfl
theorem ldCB : Statement .ldCB := fun _ => rfl
theorem ldCC : Statement .ldCC := fun _ => rfl
theorem ldCD : Statement .ldCD := fun _ => rfl
theorem ldCE : Statement .ldCE := fun _ => rfl
theorem ldCH : Statement .ldCH := fun _ => rfl
theorem ldCL : Statement .ldCL := fun _ => rfl
theorem ldCAtHL : Statement .ldCAtHL := fun _ => rfl
theorem ldCA : Statement .ldCA := fun _ => rfl
theorem ldDB : Statement .ldDB := fun _ => rfl
theorem ldDC : Statement .ldDC := fun _ => rfl
theorem ldDD : Statement .ldDD := fun _ => rfl
theorem ldDE : Statement .ldDE := fun _ => rfl
theorem ldDH : Statement .ldDH := fun _ => rfl
theorem ldDL : Statement .ldDL := fun _ => rfl
theorem ldDAtHL : Statement .ldDAtHL := fun _ => rfl
theorem ldDA : Statement .ldDA := fun _ => rfl
theorem ldEB : Statement .ldEB := fun _ => rfl
theorem ldEC : Statement .ldEC := fun _ => rfl
theorem ldED : Statement .ldED := fun _ => rfl
theorem ldEE : Statement .ldEE := fun _ => rfl
theorem ldEH : Statement .ldEH := fun _ => rfl
theorem ldEL : Statement .ldEL := fun _ => rfl
theorem ldEAtHL : Statement .ldEAtHL := fun _ => rfl
theorem ldEA : Statement .ldEA := fun _ => rfl
theorem ldHB : Statement .ldHB := fun _ => rfl
theorem ldHC : Statement .ldHC := fun _ => rfl
theorem ldHD : Statement .ldHD := fun _ => rfl
theorem ldHE : Statement .ldHE := fun _ => rfl
theorem ldHH : Statement .ldHH := fun _ => rfl
theorem ldHL : Statement .ldHL := fun _ => rfl
theorem ldHAtHL : Statement .ldHAtHL := fun _ => rfl
theorem ldHA : Statement .ldHA := fun _ => rfl
theorem ldLB : Statement .ldLB := fun _ => rfl
theorem ldLC : Statement .ldLC := fun _ => rfl
theorem ldLD : Statement .ldLD := fun _ => rfl
theorem ldLE : Statement .ldLE := fun _ => rfl
theorem ldLH : Statement .ldLH := fun _ => rfl
theorem ldLL : Statement .ldLL := fun _ => rfl
theorem ldLAtHL : Statement .ldLAtHL := fun _ => rfl
theorem ldLA : Statement .ldLA := fun _ => rfl
theorem ldAtHLB : Statement .ldAtHLB := fun _ => rfl
theorem ldAtHLC : Statement .ldAtHLC := fun _ => rfl
theorem ldAtHLD : Statement .ldAtHLD := fun _ => rfl
theorem ldAtHLE : Statement .ldAtHLE := fun _ => rfl
theorem ldAtHLH : Statement .ldAtHLH := fun _ => rfl
theorem ldAtHLL : Statement .ldAtHLL := fun _ => rfl
theorem halt : Statement .halt := fun _ => rfl
theorem ldAtHLA : Statement .ldAtHLA := fun _ => rfl
theorem ldAB : Statement .ldAB := fun _ => rfl
theorem ldAC : Statement .ldAC := fun _ => rfl
theorem ldAD : Statement .ldAD := fun _ => rfl
theorem ldAE : Statement .ldAE := fun _ => rfl
theorem ldAH : Statement .ldAH := fun _ => rfl
theorem ldAL : Statement .ldAL := fun _ => rfl
theorem ldAAtHL : Statement .ldAAtHL := fun _ => rfl
theorem ldAA : Statement .ldAA := fun _ => rfl
theorem addAB : Statement .addAB := fun _ => rfl
theorem addAC : Statement .addAC := fun _ => rfl
theorem addAD : Statement .addAD := fun _ => rfl
theorem addAE : Statement .addAE := fun _ => rfl
theorem addAH : Statement .addAH := fun _ => rfl
theorem addAL : Statement .addAL := fun _ => rfl
theorem addAAtHL : Statement .addAAtHL := fun _ => rfl
theorem addAA : Statement .addAA := fun _ => rfl
theorem adcAB : Statement .adcAB := fun _ => rfl
theorem adcAC : Statement .adcAC := fun _ => rfl
theorem adcAD : Statement .adcAD := fun _ => rfl
theorem adcAE : Statement .adcAE := fun _ => rfl
theorem adcAH : Statement .adcAH := fun _ => rfl
theorem adcAL : Statement .adcAL := fun _ => rfl
theorem adcAAtHL : Statement .adcAAtHL := fun _ => rfl
theorem adcAA : Statement .adcAA := fun _ => rfl
theorem subB : Statement .subB := fun _ => rfl
theorem subC : Statement .subC := fun _ => rfl
theorem subD : Statement .subD := fun _ => rfl
theorem subE : Statement .subE := fun _ => rfl
theorem subH : Statement .subH := fun _ => rfl
theorem subL : Statement .subL := fun _ => rfl
theorem subAtHL : Statement .subAtHL := fun _ => rfl
theorem subA : Statement .subA := fun _ => rfl
theorem sbcAB : Statement .sbcAB := fun _ => rfl
theorem sbcAC : Statement .sbcAC := fun _ => rfl
theorem sbcAD : Statement .sbcAD := fun _ => rfl
theorem sbcAE : Statement .sbcAE := fun _ => rfl
theorem sbcAH : Statement .sbcAH := fun _ => rfl
theorem sbcAL : Statement .sbcAL := fun _ => rfl
theorem sbcAAtHL : Statement .sbcAAtHL := fun _ => rfl
theorem sbcAA : Statement .sbcAA := fun _ => rfl
theorem andB : Statement .andB := fun _ => rfl
theorem andC : Statement .andC := fun _ => rfl
theorem andD : Statement .andD := fun _ => rfl
theorem andE : Statement .andE := fun _ => rfl
theorem andH : Statement .andH := fun _ => rfl
theorem andL : Statement .andL := fun _ => rfl
theorem andAtHL : Statement .andAtHL := fun _ => rfl
theorem andA : Statement .andA := fun _ => rfl
theorem xorB : Statement .xorB := fun _ => rfl
theorem xorC : Statement .xorC := fun _ => rfl
theorem xorD : Statement .xorD := fun _ => rfl
theorem xorE : Statement .xorE := fun _ => rfl
theorem xorH : Statement .xorH := fun _ => rfl
theorem xorL : Statement .xorL := fun _ => rfl
theorem xorAtHL : Statement .xorAtHL := fun _ => rfl
theorem xorA : Statement .xorA := fun _ => rfl
theorem orB : Statement .orB := fun _ => rfl
theorem orC : Statement .orC := fun _ => rfl
theorem orD : Statement .orD := fun _ => rfl
theorem orE : Statement .orE := fun _ => rfl
theorem orH : Statement .orH := fun _ => rfl
theorem orL : Statement .orL := fun _ => rfl
theorem orAtHL : Statement .orAtHL := fun _ => rfl
theorem orA : Statement .orA := fun _ => rfl
theorem cpB : Statement .cpB := fun _ => rfl
theorem cpC : Statement .cpC := fun _ => rfl
theorem cpD : Statement .cpD := fun _ => rfl
theorem cpE : Statement .cpE := fun _ => rfl
theorem cpH : Statement .cpH := fun _ => rfl
theorem cpL : Statement .cpL := fun _ => rfl
theorem cpAtHL : Statement .cpAtHL := fun _ => rfl
theorem cpA : Statement .cpA := fun _ => rfl
theorem retNZ : Statement .retNZ := fun _ => rfl
theorem popBC : Statement .popBC := fun _ => rfl
theorem jpNZ (t : Word) : Statement (.jpNZ t) := fun _ => rfl
theorem jp (t : Word) : Statement (.jp t) := fun _ => rfl
theorem callNZ (t : Word) : Statement (.callNZ t) := fun _ => rfl
theorem pushBC : Statement .pushBC := fun _ => rfl
theorem addAd8 (n : Byte) : Statement (.addAd8 n) := fun _ => rfl
theorem rst00 : Statement .rst00 := fun _ => rfl
theorem retZ : Statement .retZ := fun _ => rfl
theorem ret : Statement .ret := fun _ => rfl
theorem jpZ (t : Word) : Statement (.jpZ t) := fun _ => rfl
theorem callZ (t : Word) : Statement (.callZ t) := fun _ => rfl
theorem call (t : Word) : Statement (.call t) := fun _ => rfl
theorem adcAd8 (n : Byte) : Statement (.adcAd8 n) := fun _ => rfl
theorem rst08 : Statement .rst08 := fun _ => rfl
theorem retNC : Statement .retNC := fun _ => rfl
theorem popDE : Statement .popDE := fun _ => rfl
theorem jpNC (t : Word) : Statement (.jpNC t) := fun _ => rfl
theorem illegalD3 : Statement .illegalD3 := fun _ => rfl
theorem callNC (t : Word) : Statement (.callNC t) := fun _ => rfl
theorem pushDE : Statement .pushDE := fun _ => rfl
theorem subd8 (n : Byte) : Statement (.subd8 n) := fun _ => rfl
theorem rst10 : Statement .rst10 := fun _ => rfl
theorem retC : Statement .retC := fun _ => rfl
theorem reti : Statement .reti := fun _ => rfl
theorem jpC (t : Word) : Statement (.jpC t) := fun _ => rfl
theorem illegalDB : Statement .illegalDB := fun _ => rfl
theorem callC (t : Word) : Statement (.callC t) := fun _ => rfl
theorem illegalDD : Statement .illegalDD := fun _ => rfl
theorem sbcAd8 (n : Byte) : Statement (.sbcAd8 n) := fun _ => rfl
theorem rst18 : Statement .rst18 := fun _ => rfl
theorem ldhAtA8A (n : Byte) : Statement (.ldhAtA8A n) := fun _ => rfl
theorem popHL : Statement .popHL := fun _ => rfl
theorem ldhAtCA : Statement .ldhAtCA := fun _ => rfl
theorem illegalE3 : Statement .illegalE3 := fun _ => rfl
theorem illegalE4 : Statement .illegalE4 := fun _ => rfl
theorem pushHL : Statement .pushHL := fun _ => rfl
theorem andd8 (n : Byte) : Statement (.andd8 n) := fun _ => rfl
theorem rst20 : Statement .rst20 := fun _ => rfl
theorem addSPe8 (e : Byte) : Statement (.addSPe8 e) := fun _ => rfl
theorem jpHL : Statement .jpHL := fun _ => rfl
theorem ldAtA16A (t : Word) : Statement (.ldAtA16A t) := fun _ => rfl
theorem illegalEB : Statement .illegalEB := fun _ => rfl
theorem illegalEC : Statement .illegalEC := fun _ => rfl
theorem illegalED : Statement .illegalED := fun _ => rfl
theorem xord8 (n : Byte) : Statement (.xord8 n) := fun _ => rfl
theorem rst28 : Statement .rst28 := fun _ => rfl
theorem ldhAAtA8 (n : Byte) : Statement (.ldhAAtA8 n) := fun _ => rfl
theorem popAF : Statement .popAF := fun _ => rfl
theorem ldhAAtC : Statement .ldhAAtC := fun _ => rfl
theorem di : Statement .di := fun _ => rfl
theorem illegalF4 : Statement .illegalF4 := fun _ => rfl
theorem pushAF : Statement .pushAF := fun _ => rfl
theorem ord8 (n : Byte) : Statement (.ord8 n) := fun _ => rfl
theorem rst30 : Statement .rst30 := fun _ => rfl
theorem ldHLSPe8 (e : Byte) : Statement (.ldHLSPe8 e) := fun _ => rfl
theorem ldSPHL : Statement .ldSPHL := fun _ => rfl
theorem ldAAtA16 (t : Word) : Statement (.ldAAtA16 t) := fun _ => rfl
theorem ei : Statement .ei := fun _ => rfl
theorem illegalFC : Statement .illegalFC := fun _ => rfl
theorem illegalFD : Statement .illegalFD := fun _ => rfl
theorem cpd8 (n : Byte) : Statement (.cpd8 n) := fun _ => rfl
theorem rst38 : Statement .rst38 := fun _ => rfl
theorem prefixCb : Statement .prefixCb := fun h => absurd rfl h
theorem rlcB : Statement .rlcB := fun _ => rfl
theorem rlcC : Statement .rlcC := fun _ => rfl
theorem rlcD : Statement .rlcD := fun _ => rfl
theorem rlcE : Statement .rlcE := fun _ => rfl
theorem rlcH : Statement .rlcH := fun _ => rfl
theorem rlcL : Statement .rlcL := fun _ => rfl
theorem rlcAtHL : Statement .rlcAtHL := fun _ => rfl
theorem rlcA : Statement .rlcA := fun _ => rfl
theorem rrcB : Statement .rrcB := fun _ => rfl
theorem rrcC : Statement .rrcC := fun _ => rfl
theorem rrcD : Statement .rrcD := fun _ => rfl
theorem rrcE : Statement .rrcE := fun _ => rfl
theorem rrcH : Statement .rrcH := fun _ => rfl
theorem rrcL : Statement .rrcL := fun _ => rfl
theorem rrcAtHL : Statement .rrcAtHL := fun _ => rfl
theorem rrcA : Statement .rrcA := fun _ => rfl
theorem rlB : Statement .rlB := fun _ => rfl
theorem rlC : Statement .rlC := fun _ => rfl
theorem rlD : Statement .rlD := fun _ => rfl
theorem rlE : Statement .rlE := fun _ => rfl
theorem rlH : Statement .rlH := fun _ => rfl
theorem rlL : Statement .rlL := fun _ => rfl
theorem rlAtHL : Statement .rlAtHL := fun _ => rfl
theorem rlA : Statement .rlA := fun _ => rfl
theorem rrB : Statement .rrB := fun _ => rfl
theorem rrC : Statement .rrC := fun _ => rfl
theorem rrD : Statement .rrD := fun _ => rfl
theorem rrE : Statement .rrE := fun _ => rfl
theorem rrH : Statement .rrH := fun _ => rfl
theorem rrL : Statement .rrL := fun _ => rfl
theorem rrAtHL : Statement .rrAtHL := fun _ => rfl
theorem rrA : Statement .rrA := fun _ => rfl
theorem slaB : Statement .slaB := fun _ => rfl
theorem slaC : Statement .slaC := fun _ => rfl
theorem slaD : Statement .slaD := fun _ => rfl
theorem slaE : Statement .slaE := fun _ => rfl
theorem slaH : Statement .slaH := fun _ => rfl
theorem slaL : Statement .slaL := fun _ => rfl
theorem slaAtHL : Statement .slaAtHL := fun _ => rfl
theorem slaA : Statement .slaA := fun _ => rfl
theorem sraB : Statement .sraB := fun _ => rfl
theorem sraC : Statement .sraC := fun _ => rfl
theorem sraD : Statement .sraD := fun _ => rfl
theorem sraE : Statement .sraE := fun _ => rfl
theorem sraH : Statement .sraH := fun _ => rfl
theorem sraL : Statement .sraL := fun _ => rfl
theorem sraAtHL : Statement .sraAtHL := fun _ => rfl
theorem sraA : Statement .sraA := fun _ => rfl
theorem swapB : Statement .swapB := fun _ => rfl
theorem swapC : Statement .swapC := fun _ => rfl
theorem swapD : Statement .swapD := fun _ => rfl
theorem swapE : Statement .swapE := fun _ => rfl
theorem swapH : Statement .swapH := fun _ => rfl
theorem swapL : Statement .swapL := fun _ => rfl
theorem swapAtHL : Statement .swapAtHL := fun _ => rfl
theorem swapA : Statement .swapA := fun _ => rfl
theorem srlB : Statement .srlB := fun _ => rfl
theorem srlC : Statement .srlC := fun _ => rfl
theorem srlD : Statement .srlD := fun _ => rfl
theorem srlE : Statement .srlE := fun _ => rfl
theorem srlH : Statement .srlH := fun _ => rfl
theorem srlL : Statement .srlL := fun _ => rfl
theorem srlAtHL : Statement .srlAtHL := fun _ => rfl
theorem srlA : Statement .srlA := fun _ => rfl
theorem bit0B : Statement .bit0B := fun _ => rfl
theorem bit0C : Statement .bit0C := fun _ => rfl
theorem bit0D : Statement .bit0D := fun _ => rfl
theorem bit0E : Statement .bit0E := fun _ => rfl
theorem bit0H : Statement .bit0H := fun _ => rfl
theorem bit0L : Statement .bit0L := fun _ => rfl
theorem bit0AtHL : Statement .bit0AtHL := fun _ => rfl
theorem bit0A : Statement .bit0A := fun _ => rfl
theorem bit1B : Statement .bit1B := fun _ => rfl
theorem bit1C : Statement .bit1C := fun _ => rfl
theorem bit1D : Statement .bit1D := fun _ => rfl
theorem bit1E : Statement .bit1E := fun _ => rfl
theorem bit1H : Statement .bit1H := fun _ => rfl
theorem bit1L : Statement .bit1L := fun _ => rfl
theorem bit1AtHL : Statement .bit1AtHL := fun _ => rfl
theorem bit1A : Statement .bit1A := fun _ => rfl
theorem bit2B : Statement .bit2B := fun _ => rfl
theorem bit2C : Statement .bit2C := fun _ => rfl
theorem bit2D : Statement .bit2D := fun _ => rfl
theorem bit2E : Statement .bit2E := fun _ => rfl
theorem bit2H : Statement .bit2H := fun _ => rfl
theorem bit2L : Statement .bit2L := fun _ => rfl
theorem bit2AtHL : Statement .bit2AtHL := fun _ => rfl
theorem bit2A : Statement .bit2A := fun _ => rfl
theorem bit3B : Statement .bit3B := fun _ => rfl
theorem bit3C : Statement .bit3C := fun _ => rfl
theorem bit3D : Statement .bit3D := fun _ => rfl
theorem bit3E : Statement .bit3E := fun _ => rfl
theorem bit3H : Statement .bit3H := fun _ => rfl
theorem bit3L : Statement .bit3L := fun _ => rfl
theorem bit3AtHL : Statement .bit3AtHL := fun _ => rfl
theorem bit3A : Statement .bit3A := fun _ => rfl
theorem bit4B : Statement .bit4B := fun _ => rfl
theorem bit4C : Statement .bit4C := fun _ => rfl
theorem bit4D : Statement .bit4D := fun _ => rfl
theorem bit4E : Statement .bit4E := fun _ => rfl
theorem bit4H : Statement .bit4H := fun _ => rfl
theorem bit4L : Statement .bit4L := fun _ => rfl
theorem bit4AtHL : Statement .bit4AtHL := fun _ => rfl
theorem bit4A : Statement .bit4A := fun _ => rfl
theorem bit5B : Statement .bit5B := fun _ => rfl
theorem bit5C : Statement .bit5C := fun _ => rfl
theorem bit5D : Statement .bit5D := fun _ => rfl
theorem bit5E : Statement .bit5E := fun _ => rfl
theorem bit5H : Statement .bit5H := fun _ => rfl
theorem bit5L : Statement .bit5L := fun _ => rfl
theorem bit5AtHL : Statement .bit5AtHL := fun _ => rfl
theorem bit5A : Statement .bit5A := fun _ => rfl
theorem bit6B : Statement .bit6B := fun _ => rfl
theorem bit6C : Statement .bit6C := fun _ => rfl
theorem bit6D : Statement .bit6D := fun _ => rfl
theorem bit6E : Statement .bit6E := fun _ => rfl
theorem bit6H : Statement .bit6H := fun _ => rfl
theorem bit6L : Statement .bit6L := fun _ => rfl
theorem bit6AtHL : Statement .bit6AtHL := fun _ => rfl
theorem bit6A : Statement .bit6A := fun _ => rfl
theorem bit7B : Statement .bit7B := fun _ => rfl
theorem bit7C : Statement .bit7C := fun _ => rfl
theorem bit7D : Statement .bit7D := fun _ => rfl
theorem bit7E : Statement .bit7E := fun _ => rfl
theorem bit7H : Statement .bit7H := fun _ => rfl
theorem bit7L : Statement .bit7L := fun _ => rfl
theorem bit7AtHL : Statement .bit7AtHL := fun _ => rfl
theorem bit7A : Statement .bit7A := fun _ => rfl
theorem res0B : Statement .res0B := fun _ => rfl
theorem res0C : Statement .res0C := fun _ => rfl
theorem res0D : Statement .res0D := fun _ => rfl
theorem res0E : Statement .res0E := fun _ => rfl
theorem res0H : Statement .res0H := fun _ => rfl
theorem res0L : Statement .res0L := fun _ => rfl
theorem res0AtHL : Statement .res0AtHL := fun _ => rfl
theorem res0A : Statement .res0A := fun _ => rfl
theorem res1B : Statement .res1B := fun _ => rfl
theorem res1C : Statement .res1C := fun _ => rfl
theorem res1D : Statement .res1D := fun _ => rfl
theorem res1E : Statement .res1E := fun _ => rfl
theorem res1H : Statement .res1H := fun _ => rfl
theorem res1L : Statement .res1L := fun _ => rfl
theorem res1AtHL : Statement .res1AtHL := fun _ => rfl
theorem res1A : Statement .res1A := fun _ => rfl
theorem res2B : Statement .res2B := fun _ => rfl
theorem res2C : Statement .res2C := fun _ => rfl
theorem res2D : Statement .res2D := fun _ => rfl
theorem res2E : Statement .res2E := fun _ => rfl
theorem res2H : Statement .res2H := fun _ => rfl
theorem res2L : Statement .res2L := fun _ => rfl
theorem res2AtHL : Statement .res2AtHL := fun _ => rfl
theorem res2A : Statement .res2A := fun _ => rfl
theorem res3B : Statement .res3B := fun _ => rfl
theorem res3C : Statement .res3C := fun _ => rfl
theorem res3D : Statement .res3D := fun _ => rfl
theorem res3E : Statement .res3E := fun _ => rfl
theorem res3H : Statement .res3H := fun _ => rfl
theorem res3L : Statement .res3L := fun _ => rfl
theorem res3AtHL : Statement .res3AtHL := fun _ => rfl
theorem res3A : Statement .res3A := fun _ => rfl
theorem res4B : Statement .res4B := fun _ => rfl
theorem res4C : Statement .res4C := fun _ => rfl
theorem res4D : Statement .res4D := fun _ => rfl
theorem res4E : Statement .res4E := fun _ => rfl
theorem res4H : Statement .res4H := fun _ => rfl
theorem res4L : Statement .res4L := fun _ => rfl
theorem res4AtHL : Statement .res4AtHL := fun _ => rfl
theorem res4A : Statement .res4A := fun _ => rfl
theorem res5B : Statement .res5B := fun _ => rfl
theorem res5C : Statement .res5C := fun _ => rfl
theorem res5D : Statement .res5D := fun _ => rfl
theorem res5E : Statement .res5E := fun _ => rfl
theorem res5H : Statement .res5H := fun _ => rfl
theorem res5L : Statement .res5L := fun _ => rfl
theorem res5AtHL : Statement .res5AtHL := fun _ => rfl
theorem res5A : Statement .res5A := fun _ => rfl
theorem res6B : Statement .res6B := fun _ => rfl
theorem res6C : Statement .res6C := fun _ => rfl
theorem res6D : Statement .res6D := fun _ => rfl
theorem res6E : Statement .res6E := fun _ => rfl
theorem res6H : Statement .res6H := fun _ => rfl
theorem res6L : Statement .res6L := fun _ => rfl
theorem res6AtHL : Statement .res6AtHL := fun _ => rfl
theorem res6A : Statement .res6A := fun _ => rfl
theorem res7B : Statement .res7B := fun _ => rfl
theorem res7C : Statement .res7C := fun _ => rfl
theorem res7D : Statement .res7D := fun _ => rfl
theorem res7E : Statement .res7E := fun _ => rfl
theorem res7H : Statement .res7H := fun _ => rfl
theorem res7L : Statement .res7L := fun _ => rfl
theorem res7AtHL : Statement .res7AtHL := fun _ => rfl
theorem res7A : Statement .res7A := fun _ => rfl
theorem set0B : Statement .set0B := fun _ => rfl
theorem set0C : Statement .set0C := fun _ => rfl
theorem set0D : Statement .set0D := fun _ => rfl
theorem set0E : Statement .set0E := fun _ => rfl
theorem set0H : Statement .set0H := fun _ => rfl
theorem set0L : Statement .set0L := fun _ => rfl
theorem set0AtHL : Statement .set0AtHL := fun _ => rfl
theorem set0A : Statement .set0A := fun _ => rfl
theorem set1B : Statement .set1B := fun _ => rfl
theorem set1C : Statement .set1C := fun _ => rfl
theorem set1D : Statement .set1D := fun _ => rfl
theorem set1E : Statement .set1E := fun _ => rfl
theorem set1H : Statement .set1H := fun _ => rfl
theorem set1L : Statement .set1L := fun _ => rfl
theorem set1AtHL : Statement .set1AtHL := fun _ => rfl
theorem set1A : Statement .set1A := fun _ => rfl
theorem set2B : Statement .set2B := fun _ => rfl
theorem set2C : Statement .set2C := fun _ => rfl
theorem set2D : Statement .set2D := fun _ => rfl
theorem set2E : Statement .set2E := fun _ => rfl
theorem set2H : Statement .set2H := fun _ => rfl
theorem set2L : Statement .set2L := fun _ => rfl
theorem set2AtHL : Statement .set2AtHL := fun _ => rfl
theorem set2A : Statement .set2A := fun _ => rfl
theorem set3B : Statement .set3B := fun _ => rfl
theorem set3C : Statement .set3C := fun _ => rfl
theorem set3D : Statement .set3D := fun _ => rfl
theorem set3E : Statement .set3E := fun _ => rfl
theorem set3H : Statement .set3H := fun _ => rfl
theorem set3L : Statement .set3L := fun _ => rfl
theorem set3AtHL : Statement .set3AtHL := fun _ => rfl
theorem set3A : Statement .set3A := fun _ => rfl
theorem set4B : Statement .set4B := fun _ => rfl
theorem set4C : Statement .set4C := fun _ => rfl
theorem set4D : Statement .set4D := fun _ => rfl
theorem set4E : Statement .set4E := fun _ => rfl
theorem set4H : Statement .set4H := fun _ => rfl
theorem set4L : Statement .set4L := fun _ => rfl
theorem set4AtHL : Statement .set4AtHL := fun _ => rfl
theorem set4A : Statement .set4A := fun _ => rfl
theorem set5B : Statement .set5B := fun _ => rfl
theorem set5C : Statement .set5C := fun _ => rfl
theorem set5D : Statement .set5D := fun _ => rfl
theorem set5E : Statement .set5E := fun _ => rfl
theorem set5H : Statement .set5H := fun _ => rfl
theorem set5L : Statement .set5L := fun _ => rfl
theorem set5AtHL : Statement .set5AtHL := fun _ => rfl
theorem set5A : Statement .set5A := fun _ => rfl
theorem set6B : Statement .set6B := fun _ => rfl
theorem set6C : Statement .set6C := fun _ => rfl
theorem set6D : Statement .set6D := fun _ => rfl
theorem set6E : Statement .set6E := fun _ => rfl
theorem set6H : Statement .set6H := fun _ => rfl
theorem set6L : Statement .set6L := fun _ => rfl
theorem set6AtHL : Statement .set6AtHL := fun _ => rfl
theorem set6A : Statement .set6A := fun _ => rfl
theorem set7B : Statement .set7B := fun _ => rfl
theorem set7C : Statement .set7C := fun _ => rfl
theorem set7D : Statement .set7D := fun _ => rfl
theorem set7E : Statement .set7E := fun _ => rfl
theorem set7H : Statement .set7H := fun _ => rfl
theorem set7L : Statement .set7L := fun _ => rfl
theorem set7AtHL : Statement .set7AtHL := fun _ => rfl
theorem set7A : Statement .set7A := fun _ => rfl

end Sys2Proof.Laws.Length
end

