-- ==== Sys2Proof/Laws/Shapes.lean ====
section
/-! SUPPORT. What `exec` answers on each operand form of the instruction set: the shared operation the form's meaning is. -/

namespace Sys2Proof.Machine

theorem exec_loadForm (dst : Reg8) (o : Source) (s : State) :
    exec (loadForm dst o) s = .next (loadReg dst o (sourceCost o) s) := by
  cases o with
  | reg r => cases dst <;> cases r <;> rfl
  | atHL => cases dst <;> rfl
  | imm n => cases dst <;> rfl

theorem exec_ldToHL (r : Reg8) (s : State) : exec (Instr.ldToHL r) s = .next (storeHL (.reg r) 8 s) := by
  cases r <;> rfl

theorem exec_ldPairImm (p : Pair) (v : Word) (s : State) :
    exec (Instr.ldPairImm p v) s = .next (loadPair p v 12 s) := by cases p <;> rfl

theorem exec_push (p : StackPair) (s : State) : exec (Instr.push p) s = .next (pushPair p 16 s) := by cases p <;> rfl

theorem exec_pop (p : StackPair) (s : State) : exec (Instr.pop p) s = .next (popPair p 12 s) := by cases p <;> rfl

theorem exec_aluForm (op : AluOp) (o : Source) (s : State) :
    exec (aluForm op o) s = .next (aluA op o (sourceCost o) s) := by
  cases o with
  | reg r => cases op <;> cases r <;> rfl
  | atHL => cases op <;> rfl
  | imm n => cases op <;> rfl

theorem exec_incForm (p : Place) (s : State) : exec (incForm p) s = .next (incPlace p (placeCost p 4 12) s) := by
  cases p with
  | reg r => cases r <;> rfl
  | atHL => rfl

theorem exec_decForm (p : Place) (s : State) : exec (decForm p) s = .next (decPlace p (placeCost p 4 12) s) := by
  cases p with
  | reg r => cases r <;> rfl
  | atHL => rfl

theorem exec_addHL (p : Pair) (s : State) : exec (Instr.addHL p) s = .next (addToHL p 8 s) := by cases p <;> rfl

theorem exec_incPair (p : Pair) (s : State) : exec (Instr.incPair p) s = .next (stepPair p 1 8 s) := by cases p <;> rfl

theorem exec_decPair (p : Pair) (s : State) : exec (Instr.decPair p) s = .next (stepPair p 0xFFFF 8 s) := by
  cases p <;> rfl

theorem exec_rotForm (op : RotOp) (p : Place) (s : State) :
    exec (rotForm op p) s = .next (rotatePlace op p (placeCost p 8 16) s) := by
  cases p with
  | reg r => cases op <;> cases r <;> rfl
  | atHL => cases op <;> rfl

theorem forall_fin8 {P : Fin 8 → Prop} (h0 : P 0) (h1 : P 1) (h2 : P 2) (h3 : P 3) (h4 : P 4) (h5 : P 5) (h6 : P 6)
    (h7 : P 7) (b : Fin 8) : P b := by
  match b with
  | 0 => exact h0
  | 1 => exact h1
  | 2 => exact h2
  | 3 => exact h3
  | 4 => exact h4
  | 5 => exact h5
  | 6 => exact h6
  | 7 => exact h7

theorem exec_bitForm (b : Fin 8) (p : Place) (s : State) :
    exec (bitForm b p) s = .next (testBit b p (placeCost p 8 12) s) := by
  cases p with
  | reg r => revert b; apply forall_fin8 <;> cases r <;> rfl
  | atHL => revert b; apply forall_fin8 <;> rfl

theorem exec_resForm (b : Fin 8) (p : Place) (s : State) :
    exec (resForm b p) s = .next (resetBit b p (placeCost p 8 16) s) := by
  cases p with
  | reg r => revert b; apply forall_fin8 <;> cases r <;> rfl
  | atHL => revert b; apply forall_fin8 <;> rfl

theorem exec_setForm (b : Fin 8) (p : Place) (s : State) :
    exec (setForm b p) s = .next (setBit b p (placeCost p 8 16) s) := by
  cases p with
  | reg r => revert b; apply forall_fin8 <;> cases r <;> rfl
  | atHL => revert b; apply forall_fin8 <;> rfl


theorem exec_jpIf (cc : Cond) (a : Word) (s : State) : exec (Instr.jpIf cc a) s = .next (jumpIf cc a 16 12 s) := by
  cases cc <;> rfl

theorem exec_jrIf (cc : Cond) (e : Byte) (s : State) : exec (Instr.jrIf cc e) s = .next (jumpRelIf cc e 12 8 s) := by
  cases cc <;> rfl

theorem exec_callIf (cc : Cond) (a : Word) (s : State) : exec (Instr.callIf cc a) s = .next (callSubIf cc a 24 12 s) := by
  cases cc <;> rfl

theorem exec_retIf (cc : Cond) (s : State) : exec (Instr.retIf cc) s = .next (returnSubIf cc 20 8 s) := by
  cases cc <;> rfl

theorem exec_rst (y : Fin 8) (s : State) :
    exec (Instr.rst y) s = .next (callSub (BitVec.ofNat 16 (8 * y.val)) 16 s) := by
  revert y; apply forall_fin8 <;> rfl

theorem exec_illegal (op : IllegalOp) (s : State) :
    exec (Instr.illegal op) s = .fault (.unknownInstruction op.code false) := by cases op <;> rfl

end Sys2Proof.Machine
end

