-- ==== Sys2Proof/Laws/Words.lean ====
section
/-! SUPPORT. Every instruction's word written out from the encodings of spec/opcode_table.json (30_encoding.md R208,
R209), with operand bytes 0x7E or 0x34 0x12 after the opcode, and what it decodes to: 511 words, in groups by the first
two bits of the opcode. The bare prefix is no instruction (R211). -/

namespace Sys2Proof.Laws.Words

/-- A word decodes to the instruction beside it, with nothing left, and encodes back to the word. -/
def reads (p : List Byte × Instr) : Bool :=
  match decode p.1 with
  | .ok (i, rest) => decide (i = p.2) && rest.isEmpty && decide (encode p.2 = p.1)
  | .error _ => false

/-- Bytes decode to an instruction and a rest. -/
def decodesTo (bs : List Byte) (i : Instr) (rest : List Byte) : Bool :=
  match decode bs with
  | .ok p => decide (p = (i, rest))
  | .error _ => false

def op3a : List (List Byte × Instr) :=
  [([0xC0], .retNZ), ([0xC1], .popBC), ([0xC2, 0x34, 0x12], .jpNZ 0x1234), ([0xC3, 0x34, 0x12], .jp 0x1234),
   ([0xC4, 0x34, 0x12], .callNZ 0x1234), ([0xC5], .pushBC), ([0xC6, 0x7E], .addAd8 0x7E), ([0xC7], .rst00),
   ([0xC8], .retZ), ([0xC9], .ret), ([0xCA, 0x34, 0x12], .jpZ 0x1234), ([0xCC, 0x34, 0x12], .callZ 0x1234),
   ([0xCD, 0x34, 0x12], .call 0x1234), ([0xCE, 0x7E], .adcAd8 0x7E), ([0xCF], .rst08), ([0xD0], .retNC),
   ([0xD1], .popDE), ([0xD2, 0x34, 0x12], .jpNC 0x1234), ([0xD3], .illegalD3), ([0xD4, 0x34, 0x12], .callNC 0x1234),
   ([0xD5], .pushDE), ([0xD6, 0x7E], .subd8 0x7E), ([0xD7], .rst10), ([0xD8], .retC), ([0xD9], .reti),
   ([0xDA, 0x34, 0x12], .jpC 0x1234), ([0xDB], .illegalDB), ([0xDC, 0x34, 0x12], .callC 0x1234),
   ([0xDD], .illegalDD), ([0xDE, 0x7E], .sbcAd8 0x7E), ([0xDF], .rst18), ([0xE0, 0x7E], .ldhAtA8A 0x7E)]

theorem op3a_reads : op3a.all reads = true := by decide +kernel

def op3b : List (List Byte × Instr) :=
  [([0xE1], .popHL), ([0xE2], .ldhAtCA), ([0xE3], .illegalE3), ([0xE4], .illegalE4), ([0xE5], .pushHL),
   ([0xE6, 0x7E], .andd8 0x7E), ([0xE7], .rst20), ([0xE8, 0x7E], .addSPe8 0x7E), ([0xE9], .jpHL),
   ([0xEA, 0x34, 0x12], .ldAtA16A 0x1234), ([0xEB], .illegalEB), ([0xEC], .illegalEC), ([0xED], .illegalED),
   ([0xEE, 0x7E], .xord8 0x7E), ([0xEF], .rst28), ([0xF0, 0x7E], .ldhAAtA8 0x7E), ([0xF1], .popAF),
   ([0xF2], .ldhAAtC), ([0xF3], .di), ([0xF4], .illegalF4), ([0xF5], .pushAF), ([0xF6, 0x7E], .ord8 0x7E),
   ([0xF7], .rst30), ([0xF8, 0x7E], .ldHLSPe8 0x7E), ([0xF9], .ldSPHL), ([0xFA, 0x34, 0x12], .ldAAtA16 0x1234),
   ([0xFB], .ei), ([0xFC], .illegalFC), ([0xFD], .illegalFD), ([0xFE, 0x7E], .cpd8 0x7E), ([0xFF], .rst38)]

theorem op3b_reads : op3b.all reads = true := by decide +kernel

def op2a : List (List Byte × Instr) :=
  [([0x80], .addAB), ([0x81], .addAC), ([0x82], .addAD), ([0x83], .addAE), ([0x84], .addAH), ([0x85], .addAL),
   ([0x86], .addAAtHL), ([0x87], .addAA), ([0x88], .adcAB), ([0x89], .adcAC), ([0x8A], .adcAD), ([0x8B], .adcAE),
   ([0x8C], .adcAH), ([0x8D], .adcAL), ([0x8E], .adcAAtHL), ([0x8F], .adcAA), ([0x90], .subB), ([0x91], .subC),
   ([0x92], .subD), ([0x93], .subE), ([0x94], .subH), ([0x95], .subL), ([0x96], .subAtHL), ([0x97], .subA),
   ([0x98], .sbcAB), ([0x99], .sbcAC), ([0x9A], .sbcAD), ([0x9B], .sbcAE), ([0x9C], .sbcAH), ([0x9D], .sbcAL),
   ([0x9E], .sbcAAtHL), ([0x9F], .sbcAA)]

theorem op2a_reads : op2a.all reads = true := by decide +kernel

def op2b : List (List Byte × Instr) :=
  [([0xA0], .andB), ([0xA1], .andC), ([0xA2], .andD), ([0xA3], .andE), ([0xA4], .andH), ([0xA5], .andL),
   ([0xA6], .andAtHL), ([0xA7], .andA), ([0xA8], .xorB), ([0xA9], .xorC), ([0xAA], .xorD), ([0xAB], .xorE),
   ([0xAC], .xorH), ([0xAD], .xorL), ([0xAE], .xorAtHL), ([0xAF], .xorA), ([0xB0], .orB), ([0xB1], .orC),
   ([0xB2], .orD), ([0xB3], .orE), ([0xB4], .orH), ([0xB5], .orL), ([0xB6], .orAtHL), ([0xB7], .orA), ([0xB8], .cpB),
   ([0xB9], .cpC), ([0xBA], .cpD), ([0xBB], .cpE), ([0xBC], .cpH), ([0xBD], .cpL), ([0xBE], .cpAtHL), ([0xBF], .cpA)]

theorem op2b_reads : op2b.all reads = true := by decide +kernel

def op1a : List (List Byte × Instr) :=
  [([0x40], .ldBB), ([0x41], .ldBC), ([0x42], .ldBD), ([0x43], .ldBE), ([0x44], .ldBH), ([0x45], .ldBL),
   ([0x46], .ldBAtHL), ([0x47], .ldBA), ([0x48], .ldCB), ([0x49], .ldCC), ([0x4A], .ldCD), ([0x4B], .ldCE),
   ([0x4C], .ldCH), ([0x4D], .ldCL), ([0x4E], .ldCAtHL), ([0x4F], .ldCA), ([0x50], .ldDB), ([0x51], .ldDC),
   ([0x52], .ldDD), ([0x53], .ldDE), ([0x54], .ldDH), ([0x55], .ldDL), ([0x56], .ldDAtHL), ([0x57], .ldDA),
   ([0x58], .ldEB), ([0x59], .ldEC), ([0x5A], .ldED), ([0x5B], .ldEE), ([0x5C], .ldEH), ([0x5D], .ldEL),
   ([0x5E], .ldEAtHL), ([0x5F], .ldEA)]

theorem op1a_reads : op1a.all reads = true := by decide +kernel

def op1b : List (List Byte × Instr) :=
  [([0x60], .ldHB), ([0x61], .ldHC), ([0x62], .ldHD), ([0x63], .ldHE), ([0x64], .ldHH), ([0x65], .ldHL),
   ([0x66], .ldHAtHL), ([0x67], .ldHA), ([0x68], .ldLB), ([0x69], .ldLC), ([0x6A], .ldLD), ([0x6B], .ldLE),
   ([0x6C], .ldLH), ([0x6D], .ldLL), ([0x6E], .ldLAtHL), ([0x6F], .ldLA), ([0x70], .ldAtHLB), ([0x71], .ldAtHLC),
   ([0x72], .ldAtHLD), ([0x73], .ldAtHLE), ([0x74], .ldAtHLH), ([0x75], .ldAtHLL), ([0x76], .halt),
   ([0x77], .ldAtHLA), ([0x78], .ldAB), ([0x79], .ldAC), ([0x7A], .ldAD), ([0x7B], .ldAE), ([0x7C], .ldAH),
   ([0x7D], .ldAL), ([0x7E], .ldAAtHL), ([0x7F], .ldAA)]

theorem op1b_reads : op1b.all reads = true := by decide +kernel

def op0a : List (List Byte × Instr) :=
  [([0x00], .nop), ([0x01, 0x34, 0x12], .ldBCd16 0x1234), ([0x02], .ldAtBCA), ([0x03], .incBC), ([0x04], .incB),
   ([0x05], .decB), ([0x06, 0x7E], .ldBd8 0x7E), ([0x07], .rlca), ([0x08, 0x34, 0x12], .ldAtA16SP 0x1234),
   ([0x09], .addHLBC), ([0x0A], .ldAAtBC), ([0x0B], .decBC), ([0x0C], .incC), ([0x0D], .decC),
   ([0x0E, 0x7E], .ldCd8 0x7E), ([0x0F], .rrca), ([0x10, 0x7E], .stop 0x7E), ([0x11, 0x34, 0x12], .ldDEd16 0x1234),
   ([0x12], .ldAtDEA), ([0x13], .incDE), ([0x14], .incD), ([0x15], .decD), ([0x16, 0x7E], .ldDd8 0x7E),
   ([0x17], .rla), ([0x18, 0x7E], .jr 0x7E), ([0x19], .addHLDE), ([0x1A], .ldAAtDE), ([0x1B], .decDE),
   ([0x1C], .incE), ([0x1D], .decE), ([0x1E, 0x7E], .ldEd8 0x7E), ([0x1F], .rra)]

theorem op0a_reads : op0a.all reads = true := by decide +kernel

def op0b : List (List Byte × Instr) :=
  [([0x20, 0x7E], .jrNZ 0x7E), ([0x21, 0x34, 0x12], .ldHLd16 0x1234), ([0x22], .ldAtHLIncA), ([0x23], .incHL),
   ([0x24], .incH), ([0x25], .decH), ([0x26, 0x7E], .ldHd8 0x7E), ([0x27], .daa), ([0x28, 0x7E], .jrZ 0x7E),
   ([0x29], .addHLHL), ([0x2A], .ldAAtHLInc), ([0x2B], .decHL), ([0x2C], .incL), ([0x2D], .decL),
   ([0x2E, 0x7E], .ldLd8 0x7E), ([0x2F], .cpl), ([0x30, 0x7E], .jrNC 0x7E), ([0x31, 0x34, 0x12], .ldSPd16 0x1234),
   ([0x32], .ldAtHLDecA), ([0x33], .incSP), ([0x34], .incAtHL), ([0x35], .decAtHL), ([0x36, 0x7E], .ldAtHLd8 0x7E),
   ([0x37], .scf), ([0x38, 0x7E], .jrC 0x7E), ([0x39], .addHLSP), ([0x3A], .ldAAtHLDec), ([0x3B], .decSP),
   ([0x3C], .incA), ([0x3D], .decA), ([0x3E, 0x7E], .ldAd8 0x7E), ([0x3F], .ccf)]

theorem op0b_reads : op0b.all reads = true := by decide +kernel

def cb3a : List (List Byte × Instr) :=
  [([0xCB, 0xC0], .set0B), ([0xCB, 0xC1], .set0C), ([0xCB, 0xC2], .set0D), ([0xCB, 0xC3], .set0E),
   ([0xCB, 0xC4], .set0H), ([0xCB, 0xC5], .set0L), ([0xCB, 0xC6], .set0AtHL), ([0xCB, 0xC7], .set0A),
   ([0xCB, 0xC8], .set1B), ([0xCB, 0xC9], .set1C), ([0xCB, 0xCA], .set1D), ([0xCB, 0xCB], .set1E),
   ([0xCB, 0xCC], .set1H), ([0xCB, 0xCD], .set1L), ([0xCB, 0xCE], .set1AtHL), ([0xCB, 0xCF], .set1A),
   ([0xCB, 0xD0], .set2B), ([0xCB, 0xD1], .set2C), ([0xCB, 0xD2], .set2D), ([0xCB, 0xD3], .set2E),
   ([0xCB, 0xD4], .set2H), ([0xCB, 0xD5], .set2L), ([0xCB, 0xD6], .set2AtHL), ([0xCB, 0xD7], .set2A),
   ([0xCB, 0xD8], .set3B), ([0xCB, 0xD9], .set3C), ([0xCB, 0xDA], .set3D), ([0xCB, 0xDB], .set3E),
   ([0xCB, 0xDC], .set3H), ([0xCB, 0xDD], .set3L), ([0xCB, 0xDE], .set3AtHL), ([0xCB, 0xDF], .set3A)]

theorem cb3a_reads : cb3a.all reads = true := by decide +kernel

def cb3b : List (List Byte × Instr) :=
  [([0xCB, 0xE0], .set4B), ([0xCB, 0xE1], .set4C), ([0xCB, 0xE2], .set4D), ([0xCB, 0xE3], .set4E),
   ([0xCB, 0xE4], .set4H), ([0xCB, 0xE5], .set4L), ([0xCB, 0xE6], .set4AtHL), ([0xCB, 0xE7], .set4A),
   ([0xCB, 0xE8], .set5B), ([0xCB, 0xE9], .set5C), ([0xCB, 0xEA], .set5D), ([0xCB, 0xEB], .set5E),
   ([0xCB, 0xEC], .set5H), ([0xCB, 0xED], .set5L), ([0xCB, 0xEE], .set5AtHL), ([0xCB, 0xEF], .set5A),
   ([0xCB, 0xF0], .set6B), ([0xCB, 0xF1], .set6C), ([0xCB, 0xF2], .set6D), ([0xCB, 0xF3], .set6E),
   ([0xCB, 0xF4], .set6H), ([0xCB, 0xF5], .set6L), ([0xCB, 0xF6], .set6AtHL), ([0xCB, 0xF7], .set6A),
   ([0xCB, 0xF8], .set7B), ([0xCB, 0xF9], .set7C), ([0xCB, 0xFA], .set7D), ([0xCB, 0xFB], .set7E),
   ([0xCB, 0xFC], .set7H), ([0xCB, 0xFD], .set7L), ([0xCB, 0xFE], .set7AtHL), ([0xCB, 0xFF], .set7A)]

theorem cb3b_reads : cb3b.all reads = true := by decide +kernel

def cb2a : List (List Byte × Instr) :=
  [([0xCB, 0x80], .res0B), ([0xCB, 0x81], .res0C), ([0xCB, 0x82], .res0D), ([0xCB, 0x83], .res0E),
   ([0xCB, 0x84], .res0H), ([0xCB, 0x85], .res0L), ([0xCB, 0x86], .res0AtHL), ([0xCB, 0x87], .res0A),
   ([0xCB, 0x88], .res1B), ([0xCB, 0x89], .res1C), ([0xCB, 0x8A], .res1D), ([0xCB, 0x8B], .res1E),
   ([0xCB, 0x8C], .res1H), ([0xCB, 0x8D], .res1L), ([0xCB, 0x8E], .res1AtHL), ([0xCB, 0x8F], .res1A),
   ([0xCB, 0x90], .res2B), ([0xCB, 0x91], .res2C), ([0xCB, 0x92], .res2D), ([0xCB, 0x93], .res2E),
   ([0xCB, 0x94], .res2H), ([0xCB, 0x95], .res2L), ([0xCB, 0x96], .res2AtHL), ([0xCB, 0x97], .res2A),
   ([0xCB, 0x98], .res3B), ([0xCB, 0x99], .res3C), ([0xCB, 0x9A], .res3D), ([0xCB, 0x9B], .res3E),
   ([0xCB, 0x9C], .res3H), ([0xCB, 0x9D], .res3L), ([0xCB, 0x9E], .res3AtHL), ([0xCB, 0x9F], .res3A)]

theorem cb2a_reads : cb2a.all reads = true := by decide +kernel

def cb2b : List (List Byte × Instr) :=
  [([0xCB, 0xA0], .res4B), ([0xCB, 0xA1], .res4C), ([0xCB, 0xA2], .res4D), ([0xCB, 0xA3], .res4E),
   ([0xCB, 0xA4], .res4H), ([0xCB, 0xA5], .res4L), ([0xCB, 0xA6], .res4AtHL), ([0xCB, 0xA7], .res4A),
   ([0xCB, 0xA8], .res5B), ([0xCB, 0xA9], .res5C), ([0xCB, 0xAA], .res5D), ([0xCB, 0xAB], .res5E),
   ([0xCB, 0xAC], .res5H), ([0xCB, 0xAD], .res5L), ([0xCB, 0xAE], .res5AtHL), ([0xCB, 0xAF], .res5A),
   ([0xCB, 0xB0], .res6B), ([0xCB, 0xB1], .res6C), ([0xCB, 0xB2], .res6D), ([0xCB, 0xB3], .res6E),
   ([0xCB, 0xB4], .res6H), ([0xCB, 0xB5], .res6L), ([0xCB, 0xB6], .res6AtHL), ([0xCB, 0xB7], .res6A),
   ([0xCB, 0xB8], .res7B), ([0xCB, 0xB9], .res7C), ([0xCB, 0xBA], .res7D), ([0xCB, 0xBB], .res7E),
   ([0xCB, 0xBC], .res7H), ([0xCB, 0xBD], .res7L), ([0xCB, 0xBE], .res7AtHL), ([0xCB, 0xBF], .res7A)]

theorem cb2b_reads : cb2b.all reads = true := by decide +kernel

def cb1a : List (List Byte × Instr) :=
  [([0xCB, 0x40], .bit0B), ([0xCB, 0x41], .bit0C), ([0xCB, 0x42], .bit0D), ([0xCB, 0x43], .bit0E),
   ([0xCB, 0x44], .bit0H), ([0xCB, 0x45], .bit0L), ([0xCB, 0x46], .bit0AtHL), ([0xCB, 0x47], .bit0A),
   ([0xCB, 0x48], .bit1B), ([0xCB, 0x49], .bit1C), ([0xCB, 0x4A], .bit1D), ([0xCB, 0x4B], .bit1E),
   ([0xCB, 0x4C], .bit1H), ([0xCB, 0x4D], .bit1L), ([0xCB, 0x4E], .bit1AtHL), ([0xCB, 0x4F], .bit1A),
   ([0xCB, 0x50], .bit2B), ([0xCB, 0x51], .bit2C), ([0xCB, 0x52], .bit2D), ([0xCB, 0x53], .bit2E),
   ([0xCB, 0x54], .bit2H), ([0xCB, 0x55], .bit2L), ([0xCB, 0x56], .bit2AtHL), ([0xCB, 0x57], .bit2A),
   ([0xCB, 0x58], .bit3B), ([0xCB, 0x59], .bit3C), ([0xCB, 0x5A], .bit3D), ([0xCB, 0x5B], .bit3E),
   ([0xCB, 0x5C], .bit3H), ([0xCB, 0x5D], .bit3L), ([0xCB, 0x5E], .bit3AtHL), ([0xCB, 0x5F], .bit3A)]

theorem cb1a_reads : cb1a.all reads = true := by decide +kernel

def cb1b : List (List Byte × Instr) :=
  [([0xCB, 0x60], .bit4B), ([0xCB, 0x61], .bit4C), ([0xCB, 0x62], .bit4D), ([0xCB, 0x63], .bit4E),
   ([0xCB, 0x64], .bit4H), ([0xCB, 0x65], .bit4L), ([0xCB, 0x66], .bit4AtHL), ([0xCB, 0x67], .bit4A),
   ([0xCB, 0x68], .bit5B), ([0xCB, 0x69], .bit5C), ([0xCB, 0x6A], .bit5D), ([0xCB, 0x6B], .bit5E),
   ([0xCB, 0x6C], .bit5H), ([0xCB, 0x6D], .bit5L), ([0xCB, 0x6E], .bit5AtHL), ([0xCB, 0x6F], .bit5A),
   ([0xCB, 0x70], .bit6B), ([0xCB, 0x71], .bit6C), ([0xCB, 0x72], .bit6D), ([0xCB, 0x73], .bit6E),
   ([0xCB, 0x74], .bit6H), ([0xCB, 0x75], .bit6L), ([0xCB, 0x76], .bit6AtHL), ([0xCB, 0x77], .bit6A),
   ([0xCB, 0x78], .bit7B), ([0xCB, 0x79], .bit7C), ([0xCB, 0x7A], .bit7D), ([0xCB, 0x7B], .bit7E),
   ([0xCB, 0x7C], .bit7H), ([0xCB, 0x7D], .bit7L), ([0xCB, 0x7E], .bit7AtHL), ([0xCB, 0x7F], .bit7A)]

theorem cb1b_reads : cb1b.all reads = true := by decide +kernel

def cb0a : List (List Byte × Instr) :=
  [([0xCB, 0x00], .rlcB), ([0xCB, 0x01], .rlcC), ([0xCB, 0x02], .rlcD), ([0xCB, 0x03], .rlcE), ([0xCB, 0x04], .rlcH),
   ([0xCB, 0x05], .rlcL), ([0xCB, 0x06], .rlcAtHL), ([0xCB, 0x07], .rlcA), ([0xCB, 0x08], .rrcB),
   ([0xCB, 0x09], .rrcC), ([0xCB, 0x0A], .rrcD), ([0xCB, 0x0B], .rrcE), ([0xCB, 0x0C], .rrcH), ([0xCB, 0x0D], .rrcL),
   ([0xCB, 0x0E], .rrcAtHL), ([0xCB, 0x0F], .rrcA), ([0xCB, 0x10], .rlB), ([0xCB, 0x11], .rlC), ([0xCB, 0x12], .rlD),
   ([0xCB, 0x13], .rlE), ([0xCB, 0x14], .rlH), ([0xCB, 0x15], .rlL), ([0xCB, 0x16], .rlAtHL), ([0xCB, 0x17], .rlA),
   ([0xCB, 0x18], .rrB), ([0xCB, 0x19], .rrC), ([0xCB, 0x1A], .rrD), ([0xCB, 0x1B], .rrE), ([0xCB, 0x1C], .rrH),
   ([0xCB, 0x1D], .rrL), ([0xCB, 0x1E], .rrAtHL), ([0xCB, 0x1F], .rrA)]

theorem cb0a_reads : cb0a.all reads = true := by decide +kernel

def cb0b : List (List Byte × Instr) :=
  [([0xCB, 0x20], .slaB), ([0xCB, 0x21], .slaC), ([0xCB, 0x22], .slaD), ([0xCB, 0x23], .slaE), ([0xCB, 0x24], .slaH),
   ([0xCB, 0x25], .slaL), ([0xCB, 0x26], .slaAtHL), ([0xCB, 0x27], .slaA), ([0xCB, 0x28], .sraB),
   ([0xCB, 0x29], .sraC), ([0xCB, 0x2A], .sraD), ([0xCB, 0x2B], .sraE), ([0xCB, 0x2C], .sraH), ([0xCB, 0x2D], .sraL),
   ([0xCB, 0x2E], .sraAtHL), ([0xCB, 0x2F], .sraA), ([0xCB, 0x30], .swapB), ([0xCB, 0x31], .swapC),
   ([0xCB, 0x32], .swapD), ([0xCB, 0x33], .swapE), ([0xCB, 0x34], .swapH), ([0xCB, 0x35], .swapL),
   ([0xCB, 0x36], .swapAtHL), ([0xCB, 0x37], .swapA), ([0xCB, 0x38], .srlB), ([0xCB, 0x39], .srlC),
   ([0xCB, 0x3A], .srlD), ([0xCB, 0x3B], .srlE), ([0xCB, 0x3C], .srlH), ([0xCB, 0x3D], .srlL),
   ([0xCB, 0x3E], .srlAtHL), ([0xCB, 0x3F], .srlA)]

theorem cb0b_reads : cb0b.all reads = true := by decide +kernel

end Sys2Proof.Laws.Words
end

