-- ==== Sys2Proof/Tests/Slice0.lean ====
section
/-! SUPPORT. Tests of one step each, with the expected values of spec/95_test_vectors.md (the vector's number in each
comment), the words of the encodings, the well-formedness check, and a witness for the hypotheses of each obligation. -/

namespace Sys2Proof.Machine.Tests

set_option Elab.async false

/-- The state a vector of 95_test_vectors.md section 2 starts from: the bytes of `code` at 0xC000, pc there, F = 0,
nothing enabled, and the bytes of `cells` in memory. -/
def start (code : List Byte) (cells : List (Word × Byte)) : State :=
  let s := State.resetWith { Params.default with accessLockout := false } Cart.blank []
  let s :=
    { s with cpu := { s.cpu with pc := 0xC000, flags := flagsOfByte 0 }, irq := { flag := 0, enable := 0 } }
  plantBytes (cells.foldl (fun s p => memWrite s p.1 p.2) s) 0xC000 code

/-- The start with the CPU registers changed. -/
def startWith (code : List Byte) (cells : List (Word × Byte)) (f : Cpu → Cpu) : State :=
  { start code cells with cpu := f (start code cells).cpu }

/-- The same machine as CGB hardware with a CGB cartridge. -/
def asCgb (s : State) : State :=
  { s with params := { s.params with model := .cgb }, cart := { s.cart with cgbFlag := true } }

/-- The outcome is a next state with the property. -/
def meets (r : Result) (p : State → Bool) : Bool :=
  match r with
  | .next t => p t
  | _ => false

/-- F as a byte. -/
def fByte (s : State) : Byte := flagsByte s.cpu.flags

theorem next_of_meets {r : Result} {p : State → Bool} (h : meets r p = true) : ∃ t, r = .next t := by
  cases r with
  | next t => exact ⟨t, rfl⟩
  | fault => cases h
  | refused => cases h

/-! Words written out bit by bit (R200-R211). -/

theorem test_decode_load : decodeTableWord 8 0b01_000_001 = some .ldBC := by decide +kernel
theorem test_decode_load_imm : decodeTableWord 16 0b0111_1110_00_111_110 = some (.ldAd8 0x7E) := by decide +kernel
theorem test_decode_load16 : decodeTableWord 24 0b0001_0010_0011_0100_00_10_0001 = some (.ldHLd16 0x1234) := by
  decide +kernel
theorem test_decode_push : decodeTableWord 8 0b11_11_0101 = some .pushAF := by decide +kernel
theorem test_decode_alu : decodeTableWord 8 0b10_011_110 = some .sbcAAtHL := by decide +kernel
theorem test_decode_addHL : decodeTableWord 8 0b00_01_1001 = some .addHLDE := by decide +kernel
theorem test_decode_rotate : decodeTableWord 16 0b1100_1011_00_110_111 = some .swapA := by decide +kernel
theorem test_decode_bit : decodeTableWord 16 0b1100_1011_11_111_110 = some .set7AtHL := by decide +kernel
theorem test_decode_jump : decodeTableWord 16 0b1111_1110_001_10_000 = some (.jrNC 0xFE) := by decide +kernel
theorem test_decode_call : decodeTableWord 24 0b0001_0010_0011_0100_110_11_100 = some (.callC 0x1234) := by
  decide +kernel
theorem test_decode_control : decodeTableWord 8 0b01_110_110 = some .halt := by decide +kernel
theorem test_decode_illegal : decodeTableWord 8 0b1101_0011 = some .illegalD3 := by decide +kernel

/-! The well-formedness check: the bare prefix is refused, and only it (R211). -/

theorem test_illformed_prefix : ¬WellFormed .prefixCb := by decide +kernel
theorem test_wellformed_cb : WellFormed .swapA := by decide +kernel
theorem test_truncated_prefix : (match decode [0xCB] with | .error (.truncated n) => n | _ => 0) = 2 := by decide +kernel

/-! A word placed by the host runs as the first instruction after reset (log 28). -/

theorem test_withFetchWord_inc :
    meets (step (State.reset.withFetchWord 8 0x3C)) (fun t => t.cpu.a == 0x02 && t.cpu.pc == 0x0101) = true := by
  decide +kernel
theorem test_withFetchWord_cb :
    meets (step (State.reset.withFetchWord 16 0xCB37)) (fun t => t.cpu.a == 0x10 && t.cpu.pc == 0x0102) = true := by
  decide +kernel

/-! 8-bit loads. -/

/-- Vector L1. -/
theorem test_ld_b_c :
    meets (step (startWith [0x41] [] fun c => { c with c := 0x33 })) (fun t =>
      t.cpu.b == 0x33 && fByte t == 0x00 && t.cpu.pc == 0xC001 && t.cost == 4) = true := by
  decide +kernel

/-- Vector L2. -/
theorem test_ld_a_d8 :
    meets (step (start [0x3E, 0x7E] [])) (fun t =>
      t.cpu.a == 0x7E && t.cpu.pc == 0xC002 && t.cost == 8) = true := by
  decide +kernel

/-- Vector L3. -/
theorem test_ld_atHL_d8 :
    meets (step (startWith [0x36, 0x7E] [] fun c => { c with h := 0xC1, l := 0x00 })) (fun t =>
      memRead t 0xC100 == 0x7E && t.cost == 12) = true := by
  decide +kernel

/-- Vector L4. -/
theorem test_ld_atBC_a :
    meets (step (startWith [0x02] [] fun c => { c with a := 0x5A, b := 0xC1, c := 0x00 })) (fun t =>
      memRead t 0xC100 == 0x5A && t.cost == 8) = true := by
  decide +kernel

/-- Vector L5. -/
theorem test_ld_a_atBC :
    meets (step (startWith [0x0A] [(0xC100, 0x77)] fun c => { c with b := 0xC1, c := 0x00 })) (fun t =>
      t.cpu.a == 0x77 && t.cost == 8) = true := by
  decide +kernel

/-- Vector L6. -/
theorem test_ld_hlInc_a :
    meets (step (startWith [0x22] [] fun c => { c with a := 0x01, h := 0xC1, l := 0xFF })) (fun t =>
      memRead t 0xC1FF == 0x01 && readPair t .hl == 0xC200 && t.cost == 8) = true := by
  decide +kernel

/-- Vector L7. -/
theorem test_ld_a_hlDec :
    meets (step (startWith [0x3A] [(0xC100, 0x99)] fun c => { c with h := 0xC1, l := 0x00 })) (fun t =>
      t.cpu.a == 0x99 && readPair t .hl == 0xC0FF && t.cost == 8) = true := by
  decide +kernel

/-- Vector L8. -/
theorem test_ldh_a8_a :
    meets (step (startWith [0xE0, 0x80] [] fun c => { c with a := 0x42 })) (fun t =>
      memRead t 0xFF80 == 0x42 && t.cost == 12) = true := by
  decide +kernel

/-- Vector L9. -/
theorem test_ldh_a_c :
    meets (step (startWith [0xF2] [(0xFF80, 0x24)] fun c => { c with c := 0x80 })) (fun t =>
      t.cpu.a == 0x24 && t.cost == 8) = true := by
  decide +kernel

/-- Vector L11. -/
theorem test_ld_a16_a_echo :
    meets (step (startWith [0xEA, 0x00, 0xE1] [] fun c => { c with a := 0x66 })) (fun t =>
      memRead t 0xC100 == 0x66 && t.cpu.pc == 0xC003 && t.cost == 16) = true := by
  decide +kernel

/-- Vector L12. -/
theorem test_ld_a_a16_unusable :
    meets (step (startWith [0xFA, 0xA0, 0xFE] [] fun c => { c with a := 0x00 })) (fun t =>
      t.cpu.a == 0xFF && t.cost == 16) = true := by
  decide +kernel

/-- Vector L14. -/
theorem test_ld_a16_a_rom :
    meets (step (startWith [0xEA, 0x00, 0x20] [] fun c => { c with a := 0x55 })) (fun t =>
      memRead t 0x2000 == 0xFF && t.cpu.a == 0x55 && t.cost == 16) = true := by
  decide +kernel

/-! 16-bit loads. -/

/-- Vector W1. -/
theorem test_ld_bc_d16 :
    meets (step (start [0x01, 0x34, 0x12] [])) (fun t =>
      t.cpu.b == 0x12 && t.cpu.c == 0x34 && t.cost == 12) = true := by
  decide +kernel

/-- Vector W3. -/
theorem test_ld_a16_sp :
    meets (step (startWith [0x08, 0x00, 0xC1] [] fun c => { c with sp := 0xABCD })) (fun t =>
      memRead t 0xC100 == 0xCD && memRead t 0xC101 == 0xAB && t.cost == 20) = true := by
  decide +kernel

/-- Vector W4. -/
theorem test_ld_sp_hl :
    meets (step (startWith [0xF9] [] fun c => { c with h := 0x12, l := 0x34 })) (fun t =>
      t.cpu.sp == 0x1234 && t.cost == 8) = true := by
  decide +kernel

/-- Vector W6. -/
theorem test_ld_hl_sp_minus1 :
    meets (step (startWith [0xF8, 0xFF] [] fun c => { c with sp := 0x0001 })) (fun t =>
      readPair t .hl == 0x0000 && fByte t == 0x30 && t.cost == 12) = true := by
  decide +kernel

/-- Vector W7. -/
theorem test_ld_hl_sp_wraps :
    meets (step (startWith [0xF8, 0xFF] [] fun c => { c with sp := 0x0000 })) (fun t =>
      readPair t .hl == 0xFFFF && fByte t == 0x00 && t.cost == 12) = true := by
  decide +kernel

/-- Vector W8. -/
theorem test_push_af :
    meets (step (startWith [0xF5] [] fun c => { c with a := 0x12, flags := flagsOfByte 0x50, sp := 0xD000 })) (fun t =>
      memRead t 0xCFFF == 0x12 && memRead t 0xCFFE == 0x50 && t.cpu.sp == 0xCFFE && t.cost == 16) = true := by
  decide +kernel

/-- Vector W9. -/
theorem test_pop_af :
    meets (step (startWith [0xF1] [(0xCFFE, 0xFF), (0xCFFF, 0x12)] fun c => { c with sp := 0xCFFE })) (fun t =>
      t.cpu.a == 0x12 && fByte t == 0xF0 && t.cpu.sp == 0xD000 && t.cost == 12) = true := by
  decide +kernel

/-- Vector W10. -/
theorem test_push_bc_wraps :
    meets (step (startWith [0xC5] [] fun c => { c with b := 0xAB, c := 0xCD, sp := 0x0001 })) (fun t =>
      t.irq.enable == 0xCD && t.cpu.sp == 0xFFFF && t.cost == 16) = true := by
  decide +kernel

/-- Vector M1. -/
theorem test_pop_hl :
    meets (step (startWith [0xE1] [(0xC100, 0x34), (0xC101, 0x12)] fun c => { c with sp := 0xC100 })) (fun t =>
      readPair t .hl == 0x1234 && t.cpu.sp == 0xC102) = true := by
  decide +kernel

/-! 8-bit arithmetic and logic. -/

/-- Vector A1. -/
theorem test_add_a_a :
    meets (step (startWith [0x87] [] fun c => { c with a := 0x80 })) (fun t =>
      t.cpu.a == 0x00 && fByte t == 0x90 && t.cost == 4) = true := by
  decide +kernel

/-- Vector A3. -/
theorem test_add_a_b :
    meets (step (startWith [0x80] [] fun c => { c with a := 0xFF, b := 0x01 })) (fun t =>
      t.cpu.a == 0x00 && fByte t == 0xB0) = true := by
  decide +kernel

/-- Vector A5. -/
theorem test_adc_a_b :
    meets (step (startWith [0x88] [] fun c => { c with a := 0xFF, b := 0x00, flags := flagsOfByte 0x10 })) (fun t =>
      t.cpu.a == 0x00 && fByte t == 0xB0) = true := by
  decide +kernel

/-- Vector A7. -/
theorem test_sub_b :
    meets (step (startWith [0x90] [] fun c => { c with a := 0x00, b := 0x01 })) (fun t =>
      t.cpu.a == 0xFF && fByte t == 0x70) = true := by
  decide +kernel

/-- Vector A8. -/
theorem test_sbc_a_b :
    meets (step (startWith [0x98] [] fun c => { c with a := 0x00, b := 0x00, flags := flagsOfByte 0x10 })) (fun t =>
      t.cpu.a == 0xFF && fByte t == 0x70) = true := by
  decide +kernel

/-- Vector A9. -/
theorem test_sbc_a_b_half :
    meets (step (startWith [0x98] [] fun c => { c with a := 0x10, b := 0x0F, flags := flagsOfByte 0x10 })) (fun t =>
      t.cpu.a == 0x00 && fByte t == 0xE0) = true := by
  decide +kernel

/-- Vector A10. -/
theorem test_and_d8 :
    meets (step (startWith [0xE6, 0x0F] [] fun c => { c with a := 0xF0 })) (fun t =>
      t.cpu.a == 0x00 && fByte t == 0xA0 && t.cost == 8) = true := by
  decide +kernel

/-- Vector A11. -/
theorem test_xor_d8 :
    meets (step (startWith [0xEE, 0xFF] [] fun c => { c with a := 0xFF })) (fun t =>
      t.cpu.a == 0x00 && fByte t == 0x80) = true := by
  decide +kernel

/-- Vector A12. -/
theorem test_or_b :
    meets (step (startWith [0xB0] [] fun c => { c with a := 0x00, b := 0x00 })) (fun t =>
      t.cpu.a == 0x00 && fByte t == 0x80) = true := by
  decide +kernel

/-- Vector A15. -/
theorem test_cp_b :
    meets (step (startWith [0xB8] [] fun c => { c with a := 0x3C, b := 0x40 })) (fun t =>
      t.cpu.a == 0x3C && fByte t == 0x50) = true := by
  decide +kernel

/-- Vector A16. -/
theorem test_inc_a :
    meets (step (startWith [0x3C] [] fun c => { c with a := 0x0F, flags := flagsOfByte 0x10 })) (fun t =>
      t.cpu.a == 0x10 && fByte t == 0x30) = true := by
  decide +kernel

/-- Vector A19. -/
theorem test_dec_a :
    meets (step (startWith [0x3D] [] fun c => { c with a := 0x01, flags := flagsOfByte 0x10 })) (fun t =>
      t.cpu.a == 0x00 && fByte t == 0xD0) = true := by
  decide +kernel

/-- Vector A20. -/
theorem test_inc_atHL :
    meets (step (startWith [0x34] [(0xC100, 0xFF)] fun c => { c with h := 0xC1, l := 0x00 })) (fun t =>
      memRead t 0xC100 == 0x00 && fByte t == 0xA0 && t.cost == 12) = true := by
  decide +kernel

/-- Vector A21. -/
theorem test_dec_atHL :
    meets (step (startWith [0x35] [(0xC100, 0x00)] fun c => { c with h := 0xC1, l := 0x00 })) (fun t =>
      memRead t 0xC100 == 0xFF && fByte t == 0x60 && t.cost == 12) = true := by
  decide +kernel

/-- Vector A23. -/
theorem test_daa_add :
    meets (step (startWith [0x27] [] fun c => { c with a := 0x9A })) (fun t =>
      t.cpu.a == 0x00 && fByte t == 0x90) = true := by
  decide +kernel

/-- Vector A24. -/
theorem test_daa_sub :
    meets (step (startWith [0x27] [] fun c => { c with a := 0x2D, flags := flagsOfByte 0x60 })) (fun t =>
      t.cpu.a == 0x27 && fByte t == 0x40) = true := by
  decide +kernel

/-- Vector A28. -/
theorem test_cpl :
    meets (step (startWith [0x2F] [] fun c => { c with a := 0x35 })) (fun t =>
      t.cpu.a == 0xCA && fByte t == 0x60) = true := by
  decide +kernel

/-- Vector A29. -/
theorem test_scf :
    meets (step (startWith [0x37] [] fun c => { c with flags := flagsOfByte 0xE0 })) (fun t =>
      fByte t == 0x90) = true := by
  decide +kernel

/-- Vector A30. -/
theorem test_ccf :
    meets (step (startWith [0x3F] [] fun c => { c with flags := flagsOfByte 0x10 })) (fun t =>
      fByte t == 0x00) = true := by
  decide +kernel

/-- Vector A31. -/
theorem test_inc_div :
    meets (step (startWith [0x34] [] fun c => { c with h := 0xFF, l := 0x04 })) (fun t =>
      t.timer.divCounter == 0x000C && memRead t 0xFF04 == 0x00 && t.cost == 12) = true := by
  decide +kernel

/-! 16-bit arithmetic. -/

/-- Vector B1. -/
theorem test_add_hl_bc :
    meets (step (startWith [0x09] [] fun c => { c with h := 0x0F, l := 0xFF, b := 0x00, c := 0x01 })) (fun t =>
      readPair t .hl == 0x1000 && fByte t == 0x20 && t.cost == 8) = true := by
  decide +kernel

/-- Vector B2. -/
theorem test_add_hl_hl :
    meets (step (startWith [0x29] [] fun c => { c with h := 0x80, l := 0x00, flags := flagsOfByte 0x80 })) (fun t =>
      readPair t .hl == 0x0000 && fByte t == 0x90) = true := by
  decide +kernel

/-- Vector B4. -/
theorem test_inc_bc :
    meets (step (startWith [0x03] [] fun c => { c with b := 0xFF, c := 0xFF, flags := flagsOfByte 0xF0 })) (fun t =>
      readPair t .bc == 0x0000 && fByte t == 0xF0 && t.cost == 8) = true := by
  decide +kernel

/-- Vector B5. -/
theorem test_dec_bc :
    meets (step (startWith [0x0B] [] fun c => { c with b := 0x00, c := 0x00 })) (fun t =>
      readPair t .bc == 0xFFFF) = true := by
  decide +kernel

/-- Vector B8. -/
theorem test_add_sp_minus2 :
    meets (step (startWith [0xE8, 0xFE] [] fun c => { c with sp := 0x0005 })) (fun t =>
      t.cpu.sp == 0x0003 && fByte t == 0x30 && t.cost == 16) = true := by
  decide +kernel

/-- Vector B9. -/
theorem test_add_sp_wraps :
    meets (step (startWith [0xE8, 0xFF] [] fun c => { c with sp := 0x0000 })) (fun t =>
      t.cpu.sp == 0xFFFF && fByte t == 0x00) = true := by
  decide +kernel

/-! Rotates, shifts and bits. -/

/-- Vector X1. -/
theorem test_rlca :
    meets (step (startWith [0x07] [] fun c => { c with a := 0x85 })) (fun t =>
      t.cpu.a == 0x0B && fByte t == 0x10 && t.cost == 4) = true := by
  decide +kernel

/-- Vector X3. -/
theorem test_rrca :
    meets (step (startWith [0x0F] [] fun c => { c with a := 0x01 })) (fun t =>
      t.cpu.a == 0x80 && fByte t == 0x10) = true := by
  decide +kernel

/-- Vector X4. -/
theorem test_rla :
    meets (step (startWith [0x17] [] fun c => { c with a := 0x80 })) (fun t =>
      t.cpu.a == 0x00 && fByte t == 0x10) = true := by
  decide +kernel

/-- Vector X5. -/
theorem test_rra :
    meets (step (startWith [0x1F] [] fun c => { c with a := 0x01, flags := flagsOfByte 0x10 })) (fun t =>
      t.cpu.a == 0x80 && fByte t == 0x10) = true := by
  decide +kernel

/-- Vector X6. -/
theorem test_rlc_b :
    meets (step (startWith [0xCB, 0x00] [] fun c => { c with b := 0x80 })) (fun t =>
      t.cpu.b == 0x01 && fByte t == 0x10 && t.cost == 8) = true := by
  decide +kernel

/-- Vector X7. -/
theorem test_rl_c :
    meets (step (startWith [0xCB, 0x11] [] fun c => { c with c := 0x80 })) (fun t =>
      t.cpu.c == 0x00 && fByte t == 0x90) = true := by
  decide +kernel

/-- Vector X8. -/
theorem test_sla_a :
    meets (step (startWith [0xCB, 0x27] [] fun c => { c with a := 0x80 })) (fun t =>
      t.cpu.a == 0x00 && fByte t == 0x90) = true := by
  decide +kernel

/-- Vector X9. -/
theorem test_sra_a :
    meets (step (startWith [0xCB, 0x2F] [] fun c => { c with a := 0x81 })) (fun t =>
      t.cpu.a == 0xC0 && fByte t == 0x10) = true := by
  decide +kernel

/-- Vector X11. -/
theorem test_swap_a :
    meets (step (startWith [0xCB, 0x37] [] fun c => { c with a := 0x12 })) (fun t =>
      t.cpu.a == 0x21 && fByte t == 0x00) = true := by
  decide +kernel

/-- Vector X12. -/
theorem test_srl_a :
    meets (step (startWith [0xCB, 0x3F] [] fun c => { c with a := 0x01 })) (fun t =>
      t.cpu.a == 0x00 && fByte t == 0x90) = true := by
  decide +kernel

/-- Vector X13. -/
theorem test_bit_7_a :
    meets (step (startWith [0xCB, 0x7F] [] fun c => { c with a := 0x7F, flags := flagsOfByte 0x10 })) (fun t =>
      fByte t == 0xB0 && t.cost == 8) = true := by
  decide +kernel

/-- Vector X14. -/
theorem test_bit_0_atHL :
    meets (step (startWith [0xCB, 0x46] [(0xC100, 0x01)] fun c => { c with h := 0xC1, l := 0x00 })) (fun t =>
      fByte t == 0x20 && memRead t 0xC100 == 0x01 && t.cost == 12) = true := by
  decide +kernel

/-- Vector X15. -/
theorem test_res_0_atHL :
    meets (step (startWith [0xCB, 0x86] [(0xC100, 0xFF)] fun c => { c with h := 0xC1, l := 0x00 })) (fun t =>
      memRead t 0xC100 == 0xFE && fByte t == 0x00 && t.cost == 16) = true := by
  decide +kernel

/-- Vector X16. -/
theorem test_set_7_atHL :
    meets (step (startWith [0xCB, 0xFE] [(0xC100, 0x00)] fun c => { c with h := 0xC1, l := 0x00 })) (fun t =>
      memRead t 0xC100 == 0x80 && t.cost == 16) = true := by
  decide +kernel

/-- Vector X17. -/
theorem test_rlc_atHL :
    meets (step (startWith [0xCB, 0x06] [(0xC100, 0x80)] fun c => { c with h := 0xC1, l := 0x00 })) (fun t =>
      memRead t 0xC100 == 0x01 && fByte t == 0x10 && t.cost == 16) = true := by
  decide +kernel

/-! Control transfer. -/

/-- Vector J2. -/
theorem test_jr_back :
    meets (step (start [0x18, 0x80] [])) (fun t =>
      t.cpu.pc == 0xBF82 && t.cost == 12) = true := by
  decide +kernel

/-- Vector J3. -/
theorem test_jr_forward :
    meets (step (start [0x18, 0x7F] [])) (fun t =>
      t.cpu.pc == 0xC081 && t.cost == 12) = true := by
  decide +kernel

/-- Vector J4. -/
theorem test_jr_nz_not_taken :
    meets (step (startWith [0x20, 0x05] [] fun c => { c with flags := flagsOfByte 0x80 })) (fun t =>
      t.cpu.pc == 0xC002 && t.cost == 8) = true := by
  decide +kernel

/-- Vector J5. -/
theorem test_jr_nz_taken :
    meets (step (startWith [0x20, 0x05] [] fun c => { c with flags := flagsOfByte 0x00 })) (fun t =>
      t.cpu.pc == 0xC007 && t.cost == 12) = true := by
  decide +kernel

/-- Vector J6. -/
theorem test_jp_nz_not_taken :
    meets (step (startWith [0xC2, 0x34, 0x12] [] fun c => { c with flags := flagsOfByte 0x80 })) (fun t =>
      t.cpu.pc == 0xC003 && t.cost == 12) = true := by
  decide +kernel

/-- Vector J7. -/
theorem test_jp_z_taken :
    meets (step (startWith [0xCA, 0x34, 0x12] [] fun c => { c with flags := flagsOfByte 0x80 })) (fun t =>
      t.cpu.pc == 0x1234 && t.cost == 16) = true := by
  decide +kernel

/-- Vector J8. -/
theorem test_jp_hl :
    meets (step (startWith [0xE9] [] fun c => { c with h := 0x40, l := 0x00 })) (fun t =>
      t.cpu.pc == 0x4000 && t.cost == 4) = true := by
  decide +kernel

/-- Vector J9. -/
theorem test_call :
    meets (step (startWith [0xCD, 0x34, 0x12] [] fun c => { c with sp := 0xD000 })) (fun t =>
      memRead t 0xCFFF == 0xC0 && memRead t 0xCFFE == 0x03 && t.cpu.sp == 0xCFFE && t.cpu.pc == 0x1234
        && t.cost == 24) = true := by
  decide +kernel

/-- Vector J10. -/
theorem test_call_c_not_taken :
    meets (step (startWith [0xDC, 0x34, 0x12] [] fun c => { c with flags := flagsOfByte 0x00, sp := 0xD000 })) (fun t =>
      t.cpu.pc == 0xC003 && t.cpu.sp == 0xD000 && t.cost == 12) = true := by
  decide +kernel

/-- Vector J11. -/
theorem test_ret :
    meets (step (startWith [0xC9] [(0xCFFE, 0x03), (0xCFFF, 0xC0)] fun c => { c with sp := 0xCFFE })) (fun t =>
      t.cpu.pc == 0xC003 && t.cpu.sp == 0xD000 && t.cost == 16) = true := by
  decide +kernel

/-- Vector J12. -/
theorem test_ret_nz_not_taken :
    meets (step (startWith [0xC0] [] fun c => { c with flags := flagsOfByte 0x80, sp := 0xCFFE })) (fun t =>
      t.cpu.pc == 0xC001 && t.cost == 8) = true := by
  decide +kernel

/-- Vector J13. -/
theorem test_ret_c_taken :
    meets (step (startWith [0xD8] [(0xCFFE, 0x03), (0xCFFF, 0xC0)] fun c => { c with flags := flagsOfByte 0x10, sp := 0xCFFE })) (fun t =>
      t.cpu.pc == 0xC003 && t.cpu.sp == 0xD000 && t.cost == 20) = true := by
  decide +kernel

/-- Vector J14. -/
theorem test_rst_38 :
    meets (step (startWith [0xFF] [] fun c => { c with sp := 0xD000 })) (fun t =>
      memRead t 0xCFFF == 0xC0 && memRead t 0xCFFE == 0x01 && t.cpu.pc == 0x0038 && t.cost == 16) = true := by
  decide +kernel

/-- Vector J15. -/
theorem test_reti :
    meets (step (startWith [0xD9] [(0xDFFC, 0x34), (0xDFFD, 0x12)] fun c => { c with sp := 0xDFFC })) (fun t =>
      t.cpu.pc == 0x1234 && t.cpu.sp == 0xDFFE && t.cpu.ime == true && t.cost == 16) = true := by
  decide +kernel

/-- Vector J16. -/
theorem test_jr_wraps :
    meets (step (startWith [] [(0xFFFE, 0x18), (0xFFFF, 0x00)] fun c => { c with pc := 0xFFFE })) (fun t =>
      t.cpu.pc == 0x0000 && t.cost == 12) = true := by
  decide +kernel

/-! CPU control, interrupts and the fault. -/

/-- Vector K2. -/
theorem test_di :
    meets (step (startWith [0xF3] [] fun c => { c with ime := true })) (fun t =>
      t.cpu.ime == false && t.cost == 4) = true := by
  decide +kernel

/-- Vector K1. -/
theorem test_nop :
    meets (step (start [0x00] [])) (fun t =>
      t.cpu.pc == 0xC001 && t.cost == 4) = true := by
  decide +kernel

/-- Vector K9. -/
theorem test_prefix_cb :
    meets (step (startWith [0xCB, 0x37] [] fun c => { c with a := 0x12 })) (fun t =>
      t.cpu.a == 0x21 && fByte t == 0x00 && t.cpu.pc == 0xC002 && t.cost == 8) = true := by
  decide +kernel

/-- Vector K3, its first step: EI does not enable at once. -/
theorem test_ei_waits : meets (step (start [0xFB, 0x00] [])) (fun t => !t.cpu.ime && t.cpu.eiPending) = true := by
  decide +kernel

/-- Vector K3, its second step: IME = 1 at the end of the instruction after EI. -/
theorem test_ei_enables :
    meets (step (startWith [0x00] [] fun c => { c with eiPending := true })) (fun t =>
      t.cpu.ime && !t.cpu.eiPending) = true := by
  decide +kernel

/-- Vector K4: DI cancels the pending enable. -/
theorem test_di_cancels :
    meets (step (startWith [0xF3] [] fun c => { c with eiPending := true })) (fun t =>
      !t.cpu.ime && !t.cpu.eiPending) = true := by
  decide +kernel

/-- Vectors K5 and K7: HALT with IME = 0 halts when nothing is pending, and raises the HALT bug when something is. -/
theorem test_halt : meets (step (start [0x76] [])) (fun t => t.cpu.halted && !t.cpu.haltBug) = true := by decide +kernel
theorem test_halt_bug :
    meets (step (start [0x76] [(0xFFFF, 0x04), (0xFF0F, 0x04)])) (fun t => !t.cpu.halted && t.cpu.haltBug) = true := by
  decide +kernel

/-- Vector K5: under the HALT bug INC A executes and pc stays at it. -/
theorem test_halt_bug_inc :
    meets (step (startWith [0x3C, 0x00] [] fun c => { c with a := 0x00, haltBug := true })) (fun t =>
      t.cpu.a == 0x01 && t.cpu.pc == 0xC000 && !t.cpu.haltBug) = true := by
  decide +kernel

/-- Vector K6: under the HALT bug the d8 of LD A, d8 is the opcode byte read again. -/
theorem test_halt_bug_operand :
    meets (step (startWith [0x3E, 0x14] [] fun c => { c with haltBug := true })) (fun t =>
      t.cpu.a == 0x3E && t.cpu.pc == 0xC001) = true := by
  decide +kernel

/-- Vector K10: STOP with the speed switch armed. -/
theorem test_stop_switch :
    meets (step (memWrite (asCgb (start [0x10, 0x00] [])) 0xFF4D 0x01)) (fun t =>
      memRead t 0xFF4D == 0xFE && memRead t 0xFF04 == 0x00 && t.cpu.pc == 0xC002 && !t.cpu.stopped && t.cost == 4 && t.ppu.dot == 4)
      = true := by
  decide +kernel

/-- Vector K11: STOP without it. -/
theorem test_stop : meets (step (start [0x10, 0x00] [])) (fun t => t.cpu.stopped && memRead t 0xFF04 == 0x00) = true := by
  decide +kernel

/-- Vector K8: an illegal opcode records the fault and changes nothing else. -/
theorem test_illegal :
    runStep (start [0xDD] []) = (.fault (.unknownInstruction 0xDD false), recordFault (start [0xDD] []) 0xDD false) := by
  decide +kernel

/-- Vector Q1: VBlank before Timer. -/
theorem test_dispatch :
    meets (step (startWith [] [(0xFFFF, 0x05), (0xFF0F, 0xE5)] fun c =>
      { c with ime := true, pc := 0x015A, sp := 0xFFFE })) (fun t =>
      memRead t 0xFFFD == 0x01 && memRead t 0xFFFC == 0x5A && t.cpu.sp == 0xFFFC && t.cpu.pc == 0x0040
        && memRead t 0xFF0F == 0xE4 && !t.cpu.ime && t.cost == 20) = true := by
  decide +kernel

/-- Vector Q6: IE bits 7:5 enable nothing. -/
theorem test_no_dispatch :
    meets (step (startWith [0x00] [(0xFFFF, 0xE0), (0xFF0F, 0xFF)] fun c => { c with ime := true })) (fun t =>
      t.cpu.pc == 0xC001 && memRead t 0xFF0F == 0xFF) = true := by
  decide +kernel

/-! Devices and memory, one operation each. -/

/-- Vector T3: a DIV write that drops the selected bit increments TIMA. -/
theorem test_div_edge :
    let s := start [] []
    let s := { s with timer := { divCounter := 0x0008, tima := 0x20, tma := 0x00, tac := 0b101, signal := true } }
    (memWrite s 0xFF04 0xFF).timer.tima = 0x21 := by
  decide +kernel

/-- Vector T2: TIMA reloads from TMA in the T-cycle of the overflow, and the timer requests. -/
theorem test_timer_overflow :
    let s := start [] []
    let s := { s with timer := { divCounter := 0x001F, tima := 0xFF, tma := 0x10, tac := 0b101, signal := true } }
    ((timerTick s).timer.tima, memRead (timerTick s) 0xFF0F) = (0x10, 0xE4) := by
  decide +kernel

/-- Vector T8: pressing A with both groups selected. -/
theorem test_joypad :
    let s := setButton (start [] []) .a true
    (memRead s 0xFF00, memRead s 0xFF0F) = (0xCE, 0xF0) := by
  decide +kernel

/-- Vector T10: selecting the group of a held button. -/
theorem test_joypad_select :
    let s := memWrite (setButton (memWrite (start [] []) 0xFF00 0x20) .a true) 0xFF00 0x10
    (memRead s 0xFF00, memRead s 0xFF0F) = (0xDE, 0xF0) := by
  decide +kernel

/-- Vector P-1: dot 80 of line 0 is mode 3. -/
theorem test_stat_mode3 :
    let s := start [] []
    memRead (ppuDot { s with ppu := { s.ppu with dot := 79 } }) 0xFF41 = 0x87 := by
  decide +kernel

/-- Vector P-3: the end of line 0. -/
theorem test_line_end :
    let s := start [] []
    let s := ppuDot { s with ppu := { s.ppu with dot := 455, mode := .hblank } }
    (memRead s 0xFF44, memRead s 0xFF41) = (0x01, 0x82) := by
  decide +kernel

/-- Vector P-11: the colour ids of a tile row. -/
theorem test_color_ids : (List.range 8).map (colorId 0x3C 0x7E) = [0, 2, 3, 3, 3, 3, 2, 0] := by decide +kernel

/-- Vector P-13: the BG palette port. -/
theorem test_palette_port :
    let s := memWrite (asCgb (start [] [])) 0xFF68 0x80
    let s := memWrite (memWrite s 0xFF69 0xFF) 0xFF69 0x7F
    (memRead s 0xFF68, paletteColor s .bgPal 0 0) = (0xC2, 0x7FFF) := by
  decide +kernel

/-- Vector U2: a trigger with the DAC off. -/
theorem test_trigger_no_dac :
    memRead (memWrite (memWrite (start [] []) 0xFF12 0x00) 0xFF14 0x80) 0xFF26 = 0xF0 := by
  decide +kernel

/-- Vector U5: the 7-bit LFSR's first clock. -/
theorem test_lfsr : lfsrClock 0x7FFF true = 0x3FBF := by decide +kernel

/-- Vector U7: sweep by subtraction. -/
theorem test_sweep :
    let w : Sweep := { nr10 := 0x19, timer := 1, shadow := 0x400, enabled := true }
    (sweepTick { (start [] []).apu with sweep := w }).sweep.shadow = 0x200 := by
  decide +kernel

/-- Vectors M2 and M3: MBC1 selects bank 3, and bank 5 modulo 4 banks. -/
theorem test_mbc1_bank :
    let s := start [] []
    let c := { s.cart with kind := .mbc1, romBanks := 4 }
    let s := { s with cart := c, mbc := resetMbc .mbc1, mem := resetMemory [(0x4000, 0x11), (0xC000, 0x33)] }
    (memRead (memWrite s 0x2000 0x03) 0x4000, memRead (memWrite s 0x2000 0x05) 0x4000) = (0x33, 0x11) := by
  decide +kernel

/-- Vector M9: an MBC2 cell. -/
theorem test_mbc2_ram :
    let s := start [] []
    let s := { s with cart := { s.cart with kind := .mbc2, ramSize := 512 }, mbc := resetMbc .mbc2 }
    memRead (memWrite (memWrite s 0x0000 0x0A) 0xA000 0x5C) 0xA200 = 0xFC := by
  decide +kernel

/-- Vector M11: an RTC register keeps its mask. -/
theorem test_mbc3_rtc :
    let s := start [] []
    let s := { s with cart := { s.cart with kind := .mbc3, rtc := true }, mbc := resetMbc .mbc3 }
    memRead (memWrite (memWrite (memWrite s 0x0000 0x0A) 0x4000 0x0A) 0xA000 0xFF) 0xA000 = 0x1F := by
  decide +kernel

/-- Vector M14: the RTC's carry chain. -/
theorem test_rtc_second :
    let t : Rtc := { resetRtc with sec := 0x3B, min := 0x3B, hour := 0x17, day := 0x1FF }
    rtcSecond t = { resetRtc with carry := true } := by
  decide +kernel

/-- Vector M15: a 9-bit MBC5 bank. -/
theorem test_mbc5_bank :
    let s := start [] []
    let s := { s with cart := { s.cart with kind := .mbc5, romBanks := 512 }, mbc := resetMbc .mbc5 }
    highRomBank (memWrite (memWrite s 0x3000 0x01) 0x2000 0x05) = 0x105 := by
  decide +kernel

/-- Vector M16: OAM DMA, at its last byte. -/
theorem test_oam_dma : memRead (memWrite (start [] [(0xC19F, 0x9F)]) 0xFF46 0xC1) 0xFE9F = 0x9F := by decide +kernel

/-- Vector M17: a GDMA of two blocks. -/
theorem test_gdma :
    let s := asCgb (start [] [(0xC11F, 0x1F)])
    let s := memWrite (memWrite (memWrite (memWrite s 0xFF51 0xC1) 0xFF52 0x00) 0xFF53 0x00) 0xFF54 0x10
    let s := memWrite s 0xFF55 0x01
    (memRead s 0x802F, s.hdma.src, s.hdma.dst, memRead s 0xFF55) = (0x1F, 0xC120, 0x0030, 0xFF) := by
  decide +kernel

/-- Vector M18: an H-Blank transfer cancelled after one block. -/
theorem test_hdma_cancel :
    let s := asCgb (start [] [])
    let s := memWrite (hblankHook (memWrite s 0xFF55 0x82)) 0xFF55 0x00
    memRead s 0xFF55 = 0x81 := by
  decide +kernel


/-! Witnesses: for each obligation with hypotheses, states and operands that meet them, each clause at its boundary. -/

theorem witness_DecodeEncodeAll : WellFormed .ldBC ∧ WellFormed (.call 0x1234) ∧ WellFormed .set7AtHL := by
  decide +kernel

theorem witness_LoadAccumulator :
    let s := start [] []
    (∃ (i : Instr) (bs : List Byte) (a : Word) (cost : Nat), i = .ldAAtBC ∧ bs = [0x0A] ∧ a = readPair s .bc ∧ cost = 8)
      ∧ (∃ (i : Instr) (bs : List Byte) (a : Word) (cost : Nat),
          i = .ldAAtDE ∧ bs = [0x1A] ∧ a = readPair s .de ∧ cost = 8)
      ∧ (∃ (i : Instr) (bs : List Byte) (a : Word) (cost : Nat),
          i = .ldAAtA16 a ∧ bs = [0xFA, loByte a, hiByte a] ∧ cost = 16)
      ∧ (∃ (i : Instr) (bs : List Byte) (a : Word) (cost : Nat),
          i = .ldhAAtC ∧ bs = [0xF2] ∧ a = 0xFF00 + s.cpu.c.setWidth 16 ∧ cost = 8)
      ∧ ∃ (i : Instr) (bs : List Byte) (a : Word) (cost : Nat) (n : Byte),
        i = .ldhAAtA8 n ∧ bs = [0xF0, n] ∧ a = 0xFF00 + n.setWidth 16 ∧ cost = 12 :=
  ⟨⟨_, _, _, _, rfl, rfl, rfl, rfl⟩, ⟨_, _, _, _, rfl, rfl, rfl, rfl⟩, ⟨_, _, 0xC100, _, rfl, rfl, rfl⟩,
    ⟨_, _, _, _, rfl, rfl, rfl, rfl⟩, ⟨_, _, _, _, 0x80, rfl, rfl, rfl, rfl⟩⟩

theorem witness_StoreAccumulator :
    let s := start [] []
    (∃ (i : Instr) (bs : List Byte) (a : Word) (cost : Nat), i = .ldAtBCA ∧ bs = [0x02] ∧ a = readPair s .bc ∧ cost = 8)
      ∧ (∃ (i : Instr) (bs : List Byte) (a : Word) (cost : Nat),
          i = .ldAtDEA ∧ bs = [0x12] ∧ a = readPair s .de ∧ cost = 8)
      ∧ (∃ (i : Instr) (bs : List Byte) (a : Word) (cost : Nat),
          i = .ldAtA16A a ∧ bs = [0xEA, loByte a, hiByte a] ∧ cost = 16)
      ∧ (∃ (i : Instr) (bs : List Byte) (a : Word) (cost : Nat),
          i = .ldhAtCA ∧ bs = [0xE2] ∧ a = 0xFF00 + s.cpu.c.setWidth 16 ∧ cost = 8)
      ∧ ∃ (i : Instr) (bs : List Byte) (a : Word) (cost : Nat) (n : Byte),
        i = .ldhAtA8A n ∧ bs = [0xE0, n] ∧ a = 0xFF00 + n.setWidth 16 ∧ cost = 12 :=
  ⟨⟨_, _, _, _, rfl, rfl, rfl, rfl⟩, ⟨_, _, _, _, rfl, rfl, rfl, rfl⟩, ⟨_, _, 0xC100, _, rfl, rfl, rfl⟩,
    ⟨_, _, _, _, rfl, rfl, rfl, rfl⟩, ⟨_, _, _, _, 0x80, rfl, rfl, rfl, rfl⟩⟩

/-- The frame of a store has something to say: the first and last byte of WRAM, of the echo, of HRAM and of VRAM. -/
theorem witness_StoreFrame :
    let s := start [] []
    cellOf s 0xC000 = some (.wram, 0) ∧ cellOf s 0xDFFF = some (.wram, 0x1FFF) ∧ cellOf s 0xFDFF = some (.wram, 0x1DFF)
      ∧ cellOf s 0xFF80 = some (.hram, 0) ∧ cellOf s 0xFFFE = some (.hram, 0x7E)
      ∧ cellOf s 0x9FFF = some (.vram, 0x1FFF)
      ∧ [0xC000, 0xDFFF, 0xFDFF, 0xFF80, 0xFFFE, 0x9FFF].all (fun a => !lockedOut s a) = true := by
  decide +kernel

theorem witness_SubtractCompare : ∀ op ∈ [AluOp.sub, .sbc, .cp], op = .sub ∨ op = .sbc ∨ op = .cp := by decide +kernel

theorem witness_LogicOperations : ∀ op ∈ [AluOp.and, .xor, .or], op = .and ∨ op = .xor ∨ op = .or := by decide +kernel

theorem witness_DecimalAddition :
    let s := startWith [] [] fun c => { c with a := 0x99, b := 0x99 }
    ∃ t u, s.cpu.a.toNat = 99 / 10 * 16 + 99 % 10 ∧ s.cpu.b.toNat = 99 / 10 * 16 + 99 % 10
      ∧ exec .addAB s = .next t ∧ exec .daa t = .next u :=
  ⟨_, _, by decide +kernel, by decide +kernel, rfl, rfl⟩

theorem witness_RotateAccumulator :
    ∀ x ∈ [(RotOp.rlc, Instr.rlca, (0x07 : Byte)), (.rrc, .rrca, 0x0F), (.rl, .rla, 0x17), (.rr, .rra, 0x1F)],
      (x.1 = .rlc ∧ x.2.1 = .rlca ∧ x.2.2 = 0x07) ∨ (x.1 = .rrc ∧ x.2.1 = .rrca ∧ x.2.2 = 0x0F)
        ∨ (x.1 = .rl ∧ x.2.1 = .rla ∧ x.2.2 = 0x17) ∨ (x.1 = .rr ∧ x.2.1 = .rra ∧ x.2.2 = 0x1F) := by
  decide +kernel

theorem witness_RotatePrefixed :
    ∀ op ∈ [RotOp.rlc, .rrc, .rl, .rr], op = .rlc ∨ op = .rrc ∨ op = .rl ∨ op = .rr := by
  decide +kernel

theorem witness_ShiftPrefixed :
    ∀ op ∈ [RotOp.sla, .sra, .swap, .srl], op = .sla ∨ op = .sra ∨ op = .swap ∨ op = .srl := by
  decide +kernel

/-- Both sides of HALT: nothing pending, and the lowest and the highest interrupt pending with IME = 0. -/
theorem witness_HaltInstruction :
    let s := start [0x76] []
    (∀ k, k < 5 → s.irq.enable.getLsbD k = false)
      ∧ ∀ k ∈ [0, 4], let p := { s with irq := { flag := 1#5 <<< k, enable := 1#8 <<< k } }
        p.cpu.ime = false ∧ p.irq.enable.getLsbD k = true ∧ p.irq.flag.getLsbD k = true := by
  decide +kernel

/-- Both sides of STOP, with the timer's signal low. -/
theorem witness_StopInstruction :
    let s := start [0x10, 0x00] []
    let p := memWrite (asCgb s) 0xFF4D 0x01
    (cgbMode p = true ∧ p.sel.speedArmed = true) ∧ ¬(cgbMode s = true ∧ s.sel.speedArmed = true)
      ∧ s.timer.signal = false := by
  decide +kernel

theorem witness_StepRunsDecoded :
    let s := start [0x41] []
    let d := start [0xCD, 0x34, 0x12] []
    nextAction s = .fetch ∧ s.cpu.haltBug = false ∧ nextAction d = .fetch ∧ d.cpu.haltBug = false
      ∧ Laws.Words.decodesTo [memRead s 0xC000, memRead s 0xC001, memRead s 0xC002] .ldBC [0x00, 0x00] = true
      ∧ Laws.Words.decodesTo [memRead d 0xC000, memRead d 0xC001, memRead d 0xC002] (.call 0x1234) [] = true := by
  decide +kernel

theorem witness_HaltBugFetch :
    let s := startWith [0x3E, 0x14] [] fun c => { c with haltBug := true }
    nextAction s = .fetch ∧ s.cpu.haltBug = true
      ∧ Laws.Words.decodesTo [memRead s 0xC000, memRead s 0xC000, memRead s 0xC001] (.ldAd8 0x3E) [0x14] = true := by
  decide +kernel

/-- The interrupts of highest and of lowest priority. -/
theorem witness_InterruptDispatch :
    ∀ i ∈ [0, 4], let s := startWith [] [] fun c => { c with ime := true }
      let p := { s with irq := { flag := 1#5 <<< i, enable := 0xFF } }
      p.cpu.fault = none ∧ p.cpu.stopped = false ∧ p.cpu.ime = true ∧ i < 5 ∧ p.irq.enable.getLsbD i = true
        ∧ p.irq.flag.getLsbD i = true
        ∧ ∀ j, j < i → ¬(p.irq.enable.getLsbD j = true ∧ p.irq.flag.getLsbD j = true) := by
  decide +kernel

/-- The three cases of the EI delay: EI's own step, the step after it, and DI in the step after it. -/
theorem witness_EiDelay :
    let e := start [0xFB] []
    let n := startWith [0x00] [] fun c => { c with eiPending := true }
    let d := startWith [0xF3] [] fun c => { c with eiPending := true }
    let run := fun s : State => exec (fetchInstr (beginStep s)).1 (fetchInstr (beginStep s)).2
    nextAction e = .fetch ∧ nextAction n = .fetch ∧ nextAction d = .fetch
      ∧ e.cpu.eiPending = false ∧ meets (run e) (fun t => t.cpu.eiPending) = true
      ∧ n.cpu.eiPending = true ∧ meets (run n) (fun t => t.cpu.eiPending) = true
      ∧ d.cpu.eiPending = true ∧ meets (run d) (fun t => !t.cpu.eiPending) = true := by
  decide +kernel

/-- A halted step that wakes, one that does not, and a stopped step. -/
theorem witness_IdleSteps :
    let h := startWith [] [] fun c => { c with halted := true, ime := true }
    let w := startWith [] [(0xFFFF, 0x01), (0xFF0F, 0x01)] fun c => { c with halted := true }
    let p := startWith [] [] fun c => { c with stopped := true }
    (h.cpu.fault = none ∧ h.cpu.stopped = false ∧ h.cpu.halted = true ∧ pendingIrq h = 0)
      ∧ (w.cpu.fault = none ∧ w.cpu.stopped = false ∧ w.cpu.halted = true ∧ w.cpu.ime = false ∧ pendingIrq w ≠ 0)
      ∧ p.cpu.fault = none ∧ p.cpu.stopped = true := by
  decide +kernel

theorem witness_FaultTerminal :
    let s := start [0xDD] []
    let f := startWith [] [] fun c => { c with fault := some (0xDD, false) }
    nextAction s = .fetch ∧ memRead s s.cpu.pc = IllegalOp.code .dd ∧ f.cpu.fault = some (0xDD, false) := by
  decide +kernel

/-- A step that goes on, with GDMA costs that are whole M-cycles. -/
theorem witness_StepCost :
    (∃ t, step (start [0x41] []) = .next t) ∧ ∀ c ∈ (start [0x41] []).params.gdmaCycles, c % 4 = 0 :=
  ⟨next_of_meets (p := fun _ => true) (by decide +kernel), by decide +kernel⟩

theorem witness_MachineFixed : ∃ t, step (start [0x41] []) = .next t :=
  next_of_meets (p := fun _ => true) (by decide +kernel)

theorem witness_MemoryInvariant :
    MemOk (start [0x77] [(0xC100, 0x01)]) ∧ ∃ t, step (start [0x77] [(0xC100, 0x01)]) = .next t :=
  ⟨by unfold MemOk; decide +kernel, next_of_meets (p := fun _ => true) (by decide +kernel)⟩

/-- Line 0 with the LCD on, and the parked LCD. -/
theorem witness_PpuInvariant :
    PpuOk (start [0x41] []) ∧ PpuOk (memWrite (start [0x41] []) 0xFF40 0x00)
      ∧ (∃ t, step (start [0x41] []) = .next t)
      ∧ ∃ t, step (memWrite (start [0x41] []) 0xFF40 0x00) = .next t :=
  ⟨by unfold PpuOk; decide +kernel, by unfold PpuOk; decide +kernel,
    next_of_meets (p := fun _ => true) (by decide +kernel), next_of_meets (p := fun _ => true) (by decide +kernel)⟩

theorem witness_LinesInvariant : LinesOk (start [0x41] []) ∧ ∃ t, step (start [0x41] []) = .next t :=
  ⟨by unfold LinesOk; decide +kernel, next_of_meets (p := fun _ => true) (by decide +kernel)⟩

/-- Each variant. -/
theorem witness_BankInvariant :
    (∀ k ∈ [MbcKind.mbc0, .mbc1, .mbc2, .mbc3, .mbc5],
        ∃ t, step { start [0x41] [] with mbc := resetMbc k } = .next t)
      ∧ BanksOk { start [0x41] [] with mbc := resetMbc .mbc1 } ∧ BanksOk { start [0x41] [] with mbc := resetMbc .mbc2 }
      ∧ BanksOk { start [0x41] [] with mbc := resetMbc .mbc3 } :=
  ⟨fun k _ => by cases k <;> exact next_of_meets (p := fun _ => true) (by decide +kernel),
    show (1 : BitVec 5) ≠ 0 by decide, show (1 : BitVec 4) ≠ 0 by decide, show (1 : BitVec 7) ≠ 0 by decide⟩

theorem witness_ResetInvariants : storeWf Region.rom.blank [(0x0100, (0x00 : Byte)), (0x0101, 0xC3)] = true := by
  decide +kernel

theorem witness_ResetCpu : Params.default.model = .dmg ∧ (asCgb State.reset).params.model = .cgb := by decide +kernel

/-- The first and the last row of O47's list, in both modes. -/
theorem witness_ResetIo :
    ((0xFF00, 0xCF, 0xCF) : Word × Byte × Byte) ∈ [((0xFF00, 0xCF, 0xCF) : Word × Byte × Byte), (0xFFFF, 0x00, 0x00)]
      ∧ cgbMode State.reset = false ∧ cgbMode (asCgb State.reset) = true
      ∧ memRead State.reset 0xFF00 = 0xCF ∧ memRead State.reset 0xFFFF = 0x00
      ∧ memRead (asCgb State.reset) 0xFF00 = 0xCF := by
  refine ⟨List.mem_cons_self, ?_⟩
  decide +kernel

/-- The cartridges of O48's clauses, at the boundaries of their ranges. -/
theorem witness_MemoryAccess :
    let s := start [] []
    let m2 := { s with mbc := .mbc2 { ramEnable := true, romBank := 1 } }
    let clock := fun (k : Byte) =>
      { s with
        cart := { s.cart with rtc := true }
        mbc := .mbc3 { ramEnable := true, romBank := 1, ramSelect := k, latchArmed := false } }
    (0x7FFF : Word).toNat < 0x8000 ∧ ¬(0x8000 : Word).toNat < 0x8000
      ∧ s.mbc = .mbc0 ∧ m2.mbc = .mbc2 { ramEnable := true, romBank := 1 }
      ∧ (resetMbc .mbc2 = .mbc2 { ramEnable := false, romBank := 1 })
      ∧ 0xA000 ≤ (0xA000 : Word).toNat ∧ (0xBFFF : Word).toNat < 0xC000
      ∧ (clock 0x08).cart.rtc = true
      ∧ (clock 0x0C).mbc = .mbc3 { ramEnable := true, romBank := 1, ramSelect := 0x0C, latchArmed := false } := by
  decide +kernel

theorem witness_EchoRam :
    (0xE000 ≤ (0xE000 : Word).toNat ∧ (0xE000 : Word).toNat < 0xFE00)
      ∧ 0xE000 ≤ (0xFDFF : Word).toNat ∧ (0xFDFF : Word).toNat < 0xFE00 := by
  decide +kernel

/-- The boundaries of every range O50 names, in both modes. -/
theorem witness_UnmappedAddresses :
    let s := start [] []
    cgbMode s = false ∧ cgbMode (asCgb s) = true
      ∧ ([0xFEA0, 0xFEFF, 0xFF03, 0xFF08, 0xFF0E, 0xFF15, 0xFF1F, 0xFF27, 0xFF2F, 0xFF4C, 0xFF4E, 0xFF50, 0xFF56,
            0xFF67, 0xFF6C, 0xFF6F, 0xFF71, 0xFF7F] : List Word).all
          (fun a => memRead s a == 0xFF && memRead (asCgb s) a == 0xFF) = true
      ∧ ([0xFF4D, 0xFF4F, 0xFF51, 0xFF55, 0xFF68, 0xFF6B, 0xFF70] : List Word).all (fun a => memRead s a == 0xFF)
        = true := by
  decide +kernel

/-- The lockout's two modes, with and without the parameter and the LCD. -/
theorem witness_AccessLockout :
    let s := asCgb State.reset
    let p := { s with ppu := { s.ppu with mode := .pixelTransfer } }
    s.params.accessLockout = true ∧ s.ppu.lcdc.getLsbD 7 = true ∧ s.ppu.mode = .oamScan ∧ p.ppu.mode = .pixelTransfer
      ∧ cgbMode p = true ∧ (start [] []).params.accessLockout = false
      ∧ lockedOut p 0x8000 = true ∧ lockedOut p 0x9FFF = true ∧ lockedOut p 0xA000 = false
      ∧ lockedOut s 0xFE00 = true ∧ lockedOut s 0xFE9F = true ∧ lockedOut s 0xFEA0 = false
      ∧ lockedOut s 0x8000 = false := by
  decide +kernel

/-- A source at the boundaries O53 names, a last block and another. -/
theorem witness_HdmaBlockCopy :
    let at_ := fun (src : Word) (blocks : BitVec 7) =>
      { start [] [] with hdma := { resetHdma with active := true, src := src, blocks := blocks } }
    (at_ 0x0000 0).hdma.blocks = 0 ∧ (at_ 0x0000 0).hdma.src.toNat ≤ 0x7FF0
      ∧ (at_ 0x7FF0 1).hdma.blocks ≠ 0 ∧ (at_ 0x7FF0 1).hdma.src.toNat ≤ 0x7FF0
      ∧ 0xA000 ≤ (at_ 0xA000 0x7F).hdma.src.toNat ∧ (at_ 0xDFF0 0).hdma.src.toNat ≤ 0xDFF0 := by
  decide +kernel

/-- A falling edge with and without an overflow, and no edge. -/
theorem witness_TimerTick :
    let s := start [] []
    let e := fun tima => { s with timer := { divCounter := 0x000F, tima := tima, tma := 0x10, tac := 0b101, signal := true } }
    (timerTick (e 0xFF)).timer.signal = false ∧ (e 0xFF).timer.tima = 0xFF ∧ (e 0xFE).timer.tima ≠ 0xFF
      ∧ s.timer.signal = false := by
  decide +kernel

theorem witness_SerialTransfer :
    cgbMode (start [] []) = false ∧ (0x81 : Byte).getLsbD 7 = true ∧ (0x81 : Byte).getLsbD 0 = true := by
  decide +kernel

/-- A press that drops a line, one that does not, and no group selected. -/
theorem witness_JoypadEdge :
    let s := start [] []
    let n := memWrite s 0xFF00 0x30
    s.joypad.lines = p1Lines s.joypad ∧ n.joypad.lines = p1Lines n.joypad ∧ n.joypad.select = 0b11
      ∧ s.joypad.lines.getLsbD 0 = true ∧ (setButton s .a true).joypad.lines.getLsbD 0 = false
      ∧ (∀ j, j < 4 → (setButton s .a false).joypad.lines.getLsbD j = true)
      ∧ (memWrite s 0xFF00 0x10).joypad.select.getLsbD 0 = true ∧ (memWrite s 0xFF00 0x20).joypad.select.getLsbD 1 = true
      ∧ (memWrite s 0xFF00 0x10).joypad.lines = p1Lines (memWrite s 0xFF00 0x10).joypad
      ∧ (memWrite s 0xFF00 0x20).joypad.lines = p1Lines (memWrite s 0xFF00 0x20).joypad := by
  decide +kernel

/-- The LCD off; the dot before line 144; the dot before the frame's end. -/
theorem witness_PpuPosition :
    let s := start [] []
    let off := memWrite s 0xFF40 0x00
    let v := { s with ppu := { s.ppu with ly := 143, dot := 455, mode := .hblank } }
    let e := { s with ppu := { s.ppu with ly := 153, dot := 455, mode := .vblank } }
    PpuOk off ∧ lcdOn off = false ∧ PpuOk v ∧ lcdOn v = true ∧ framePosition (ppuDot v) = 144 * 456
      ∧ PpuOk e ∧ framePosition (ppuDot e) = 0 := by
  unfold PpuOk
  decide +kernel

/-- Twelve sprites on line 0: entries 0 to 9 are selected (vector P-8), entry 10 covers the line and is left out. -/
theorem witness_SpriteSelection :
    let s := (List.range 12).foldl (fun u i => poke u .oam (4 * i) 0x10) (start [] [])
    selectSprites s = List.range 10 ∧ (peek s .oam 40).toNat = 16 := by
  decide +kernel

/-- The read masks of R64-R68 (and 0xFF of R69 in the gaps) after power off (R685). -/
theorem test_apu_off :
    let t := memWrite (start [] []) 0xFF26 0x00
    (List.range 23).map (fun k => memRead t (0xFF10 + BitVec.ofNat 16 k))
      = [0x80, 0x3F, 0x00, 0xFF, 0xBF, 0xFF, 0x3F, 0x00, 0xFF, 0xBF, 0x7F, 0xFF, 0x9F, 0xFF, 0xBF, 0xFF, 0xFF, 0x00, 0x00,
        0xBF, 0x00, 0x00, 0x70] := by
  decide +kernel

theorem witness_ApuPower :
    (start [] []).apu.power = true ∧ (0x00 : Byte).getLsbD 7 = false ∧ 0xFF10 ≤ (0xFF10 : Word).toNat
      ∧ (0xFF25 : Word).toNat < 0xFF26 := by
  decide +kernel

/-- Vector S7: the least image that is accepted, and images refused for their length, checksum and type. -/
def romImage (sum kind : Byte) : List Byte := ((List.replicate 0x150 (0x00 : Byte)).set 0x14D sum).set 0x147 kind

/-- Whether an image is accepted. -/
def accepts (img : List Byte) : Bool :=
  match loadRom State.reset img with
  | .ok _ => true
  | .error _ => false

theorem witness_LoadRom :
    accepts (romImage 0xE7 0x00) = true ∧ accepts (romImage 0x00 0x00) = false
      ∧ accepts (romImage 0xE3 0x04) = false ∧ headerChecksum (romImage 0xE3 0x04) = 0xE3
      ∧ accepts (romImage 0xC7 0x20) = false ∧ accepts (List.replicate 0x14F 0x00) = false := by
  decide +kernel

end Sys2Proof.Machine.Tests
end

