-- ==== Sys2Proof/Proofs/MemoryInvariant.lean ====
section
/-! The canonical form of every memory and of the framebuffer, kept by every step (O41). The memories are the instance
`pokeClosed_wf` of Laws/Memory.lean. The framebuffer is written at one place only, where the PPU draws a line: every other
operation leaves it alone. -/

namespace Sys2Proof.Machine

/-! What leaves the framebuffer alone. -/

@[simp] theorem statUpdate_frame (s : State) : (statUpdate s).ppu.frame = s.ppu.frame := by
  simp only [statUpdate]
  split <;> rfl

@[simp] theorem statWrite_frame (s : State) (v : Byte) : (statWrite s v).ppu.frame = s.ppu.frame := by
  simp [statWrite]

@[simp] theorem lycWrite_frame (s : State) (v : Byte) : (lycWrite s v).ppu.frame = s.ppu.frame := by
  simp [lycWrite]

@[simp] theorem lcdcWrite_frame (s : State) (v : Byte) : (lcdcWrite s v).ppu.frame = s.ppu.frame := by
  simp only [lcdcWrite]
  split <;> simp

@[simp] theorem bcpdWrite_frame (s : State) (v : Byte) : (bcpdWrite s v).ppu.frame = s.ppu.frame := rfl

@[simp] theorem ocpdWrite_frame (s : State) (v : Byte) : (ocpdWrite s v).ppu.frame = s.ppu.frame := rfl

@[simp] theorem dmaWrite_frame (s : State) (v : Byte) : (dmaWrite s v).ppu.frame = s.ppu.frame := by
  simp [dmaWrite]

@[simp] theorem lockedWrite_frame (s : State) (a : Word) : (lockedWrite s a).ppu.frame = s.ppu.frame := by
  simp only [lockedWrite]
  (repeat' split) <;> rfl

@[simp] theorem ioRegWrite_frame (s : State) (r : IoReg) (v : Byte) :
    (ioRegWrite s r v).ppu.frame = s.ppu.frame := by
  cases r <;> simp [ioRegWrite]

@[simp] theorem ioWrite_frame (s : State) (n : Nat) (v : Byte) : (ioWrite s n v).ppu.frame = s.ppu.frame := by
  simp only [ioWrite]
  split <;> simp

@[simp] theorem targetWrite_frame (s : State) (g : Target) (v : Byte) :
    (targetWrite s g v).ppu.frame = s.ppu.frame := by
  cases g <;> simp [targetWrite]

@[simp] theorem memWrite_frame (s : State) (a : Word) (v : Byte) : (memWrite s a v).ppu.frame = s.ppu.frame := by
  simp only [memWrite]
  split <;> simp

@[simp] theorem frameStart_frame (s : State) : (frameStart s).ppu.frame = s.ppu.frame := rfl

@[simp] theorem scanEnd_frame (s : State) : (scanEnd s).ppu.frame = s.ppu.frame := rfl

@[simp] theorem lineEnd_frame (s : State) : (lineEnd s).ppu.frame = s.ppu.frame := by
  simp only [lineEnd]
  (repeat' split) <;> simp

/-! What draws. -/

@[simp] theorem drawEnd_frame (s : State) : (drawEnd s).ppu.frame = (renderLine s).ppu.frame := by
  simp [drawEnd]

/-- Drawing a line writes one row, or none in a skipped frame. -/
theorem renderLine_frame_wf (s : State) (h : storeWf blankRow s.ppu.frame = true) :
    storeWf blankRow (renderLine s).ppu.frame = true := by
  simp only [renderLine]
  split
  · exact h
  · exact storeWf_storeWrite blankRow _ _ _ h

theorem ppuDot_frame_wf (s : State) (h : storeWf blankRow s.ppu.frame = true) :
    storeWf blankRow (ppuDot s).ppu.frame = true := by
  simp only [ppuDot]
  split
  · (repeat' split) <;> simp only [statUpdate_frame, lineEnd_frame, scanEnd_frame, drawEnd_frame]
    · exact h
    · exact h
    · exact renderLine_frame_wf _ h
    · exact h
  · exact h

theorem deviceTick_frame_wf (fast : Bool) (k : Nat) (s : State) (h : storeWf blankRow s.ppu.frame = true) :
    storeWf blankRow (deviceTick fast k s).ppu.frame = true := by
  have h' : storeWf blankRow (serialTick (timerTick s)).ppu.frame = true := by simpa using h
  simp only [deviceTick]
  split
  · simpa using ppuDot_frame_wf _ h'
  · exact h'

/-! The canonical form of the whole state. -/

/-- The canonical form depends on the memories and the framebuffer alone. -/
theorem MemOk.congr {s t : State} (h : MemOk s) (hm : t.mem = s.mem) (hf : t.ppu.frame = s.ppu.frame) : MemOk t := by
  unfold MemOk
  rw [hm, hf]
  exact h

theorem memOk_memWrite (s : State) (a : Word) (v : Byte) (h : MemOk s) : MemOk (memWrite s a v) := by
  obtain ⟨hm, hf⟩ := h
  exact ⟨memWrite_wf s a v hm, by rwa [memWrite_frame]⟩

theorem memOk_deviceTick (s : State) (fast : Bool) (k : Nat) (h : MemOk s) : MemOk (deviceTick fast k s) := by
  obtain ⟨hm, hf⟩ := h
  exact ⟨deviceTick_keeps pokeClosed_wf fast k s hm, deviceTick_frame_wf fast k s hf⟩

/-- Every move of a step keeps the canonical form: only CPU writes and the devices touch the memories or the
framebuffer. -/
theorem memOk_stepClosed : StepClosed MemOk where
  cpu _ _ _ _ _ _ _ h := h.congr rfl rfl
  write := memOk_memWrite
  divider s h := h.congr (setDivider_mem s 0) (by simp)
  armed _ _ h := h.congr rfl rfl
  fresh _ _ h := h.congr rfl rfl
  flag _ _ h := h.congr rfl rfl
  dispatchCost _ _ _ h := h.congr rfl rfl
  device := memOk_deviceTick
  count _ _ h := h.congr rfl rfl

/-- Settles O41: the moves of a step keep the canonical form, so the step does. -/
theorem memoryInvariant : Obligations.MemoryInvariant := by
  unfold Obligations.MemoryInvariant
  intro s t h hs
  exact step_keeps memOk_stepClosed h hs

end Sys2Proof.Machine
end

