-- ==== Sys2Proof/Proofs/UnmappedAddresses.lean ====
section
/-! Addresses that lead nowhere (O50, R69, R108): the unusable area, and the IO addresses that name no register. There a
read gives 0xFF and a write changes nothing, locked out or not. -/

namespace Sys2Proof.Machine

/-- The address leads to the unusable area, or to an IO address that names no register. -/
def LeadsNowhere (s : State) (a : Word) : Prop :=
  route s a = .unusable ∨ ∃ n, route s a = .io n ∧ ioReg (cgbMode s) n = none

/-- 0xFEA0-0xFEFF leads to the unusable area. -/
theorem route_unusable (s : State) (a : Word) (h : 0xFEA0 ≤ a.toNat) (h' : a.toNat < 0xFF00) :
    route s a = .unusable := by
  have he : unecho a.toNat = a.toNat := if_neg (by omega)
  simp only [route, he]
  repeat rw [if_neg (by omega)]
  rw [if_pos h']

/-- 0xFF00-0xFF7F leads to the IO registers. -/
theorem route_io (s : State) (a : Word) (h : 0xFF00 ≤ a.toNat) (h' : a.toNat < 0xFF80) :
    route s a = .io (a.toNat - 0xFF00) := by
  have he : unecho a.toNat = a.toNat := if_neg (by omega)
  simp only [route, he]
  repeat rw [if_neg (by omega)]
  rw [if_pos h']

theorem memRead_of_leadsNowhere {s : State} {a : Word} (h : LeadsNowhere s a) : memRead s a = 0xFF := by
  have hn : memReadNoLock s a = 0xFF := by
    rcases h with h | ⟨n, h, hr⟩
    · simp only [memReadNoLock, h]
    · simp only [memReadNoLock, h, ioRead, hr]
  simp only [memRead, hn, ite_self]

/-- In CGB mode the palette data addresses name a register. -/
theorem not_leadsNowhere_paletteData {s : State} {a : Word} (ha : a = 0xFF69 ∨ a = 0xFF6B) (hc : cgbMode s = true) :
    ¬LeadsNowhere s a := by
  have hio : ∃ k r, route s a = .io k ∧ ioReg true k = some r := by
    rcases ha with rfl | rfl
    · exact ⟨0x69, .bcpd, route_io s _ (by decide) (by decide), by decide⟩
    · exact ⟨0x6B, .ocpd, route_io s _ (by decide) (by decide), by decide⟩
  obtain ⟨k, r, hk, hr⟩ := hio
  simp [LeadsNowhere, hk, hc, hr]

/-- A locked-out write here steps no palette index. -/
theorem lockedWrite_of_leadsNowhere {s : State} {a : Word} (h : LeadsNowhere s a) : lockedWrite s a = s := by
  simp only [lockedWrite]
  rw [if_neg fun ⟨ha, hc⟩ => not_leadsNowhere_paletteData (.inl ha) hc h,
    if_neg fun ⟨ha, hc⟩ => not_leadsNowhere_paletteData (.inr ha) hc h]

theorem memWrite_of_leadsNowhere {s : State} {a : Word} (v : Byte) (h : LeadsNowhere s a) : memWrite s a v = s := by
  have ht : targetWrite s (route s a) v = s := by
    rcases h with h | ⟨n, h, hr⟩
    · simp only [targetWrite, h]
    · simp only [targetWrite, h, ioWrite, hr]
  simp only [memWrite, ht, lockedWrite_of_leadsNowhere h, ite_self]

/-- The IO offsets that name no register in any mode (R69). -/
def ioGap (n : Nat) : Bool :=
  decide (n = 0x03 ∨ (0x08 ≤ n ∧ n < 0x0F) ∨ n = 0x15 ∨ n = 0x1F ∨ (0x27 ≤ n ∧ n < 0x30) ∨ n = 0x4C ∨ n = 0x4E
    ∨ n = 0x50 ∨ (0x56 ≤ n ∧ n < 0x68) ∨ (0x6C ≤ n ∧ n < 0x70) ∨ (0x71 ≤ n ∧ n < 0x80))

/-- The IO offsets that name a register in CGB mode alone (R69). -/
def ioCgbOnly (n : Nat) : Bool :=
  decide (n = 0x4D ∨ n = 0x4F ∨ (0x51 ≤ n ∧ n < 0x56) ∨ (0x68 ≤ n ∧ n < 0x6C) ∨ n = 0x70)

/-- The register table has no entry at a gap, nor at a CGB register outside CGB mode. -/
theorem ioReg_unmapped :
    ∀ n < 0x80, ∀ cgb : Bool, ioGap n = true ∨ (cgb = false ∧ ioCgbOnly n = true) → ioReg cgb n = none := by
  decide +kernel

theorem leadsNowhere_io {s : State} {a : Word} (h : 0xFF00 ≤ a.toNat) (h' : a.toNat < 0xFF80)
    (hn : ioGap (a.toNat - 0xFF00) = true ∨ (cgbMode s = false ∧ ioCgbOnly (a.toNat - 0xFF00) = true)) :
    LeadsNowhere s a :=
  .inr ⟨_, route_io s a h h', ioReg_unmapped _ (by omega) _ hn⟩

/-- Settles O50: each address of the list leads to the unusable area, to a gap of the register table, or to a CGB
register outside CGB mode. -/
theorem unmappedAddresses : Obligations.UnmappedAddresses := by
  unfold Obligations.UnmappedAddresses
  intro s a v h
  suffices hn : LeadsNowhere s a from ⟨memRead_of_leadsNowhere hn, memWrite_of_leadsNowhere v hn⟩
  simp only [← BitVec.toNat_inj, BitVec.reduceToNat] at h
  by_cases hu : a.toNat < 0xFF00
  · exact .inl (route_unusable s a (by omega) hu)
  · refine leadsNowhere_io (by omega) (by omega) ?_
    simp only [ioGap, ioCgbOnly, decide_eq_true_eq]
    cases hc : cgbMode s with
    | false =>
      simp only [hc, true_and] at h ⊢
      omega
    | true =>
      simp only [hc, Bool.true_eq_false, false_and, or_false] at h ⊢
      omega

end Sys2Proof.Machine
end

