-- ==== Sys2Proof/Proofs/ResetIo.lean ====
section
/-! The IO registers at reset (O47, R70). What an address from 0xFF00 on reads at reset depends on the mode alone, but for
the divider, so the table of R70 is checked on one machine of each mode. -/

namespace Sys2Proof.Machine

@[simp] theorem cgbMode_resetWith (p : Params) (c : Cart) (rom : List Host.Cell) :
    cgbMode (State.resetWith p c rom) = cgbModeOf p.model c.cgbFlag := rfl

/-- At reset the PPU scans OAM, so no register is locked out. -/
theorem lockedOut_resetWith (p : Params) (c : Cart) (rom : List Host.Cell) (a : Word) (ha : 0xFF00 ≤ a.toNat) :
    lockedOut (State.resetWith p c rom) a = false := by
  have hv : ¬(0x8000 ≤ a.toNat ∧ a.toNat < 0xA000) := by omega
  have ho : ¬(0xFE00 ≤ a.toNat ∧ a.toNat < 0xFEA0) := by omega
  simp [lockedOut, hv, ho, State.resetWith, resetPpu]

/-- At reset an address from 0xFF00 to 0xFF7F reads its IO register. -/
theorem memRead_resetWith_io (p : Params) (c : Cart) (rom : List Host.Cell) (a : Word) (h : 0xFF00 ≤ a.toNat)
    (h' : a.toNat < 0xFF80) :
    memRead (State.resetWith p c rom) a = ioRead (State.resetWith p c rom) (a.toNat - 0xFF00) := by
  simp only [memRead, lockedOut_resetWith p c rom a h, Bool.false_eq_true, if_false, memReadNoLock, route_io _ a h h']

theorem ioRead_of_ioReg {s : State} {n : Nat} {r : IoReg} (h : ioReg (cgbMode s) n = some r) :
    ioRead s n = ioRegRead s r := by
  simp only [ioRead, h]

/-- Only offset 4 names the divider. -/
theorem ioReg_ne_div : ∀ n < 0x80, n ≠ 4 → ∀ cgb : Bool, ioReg cgb n ≠ some .div := by
  decide +kernel

section SameMode

variable {p q : Params} {c d : Cart} (h : cgbModeOf p.model c.cgbFlag = cgbModeOf q.model d.cgbFlag)
  (rom img : List Host.Cell)

include h

/-- At reset a register but DIV reads the same on every machine of the same mode. -/
theorem ioRegRead_resetWith (r : IoReg) (hr : r ≠ .div) :
    ioRegRead (State.resetWith p c rom) r = ioRegRead (State.resetWith q d img) r := by
  have hmode : cgbMode (State.resetWith p c rom) = cgbMode (State.resetWith q d img) := h
  have hserial : (State.resetWith p c rom).serial = (State.resetWith q d img).serial := congrArg resetSerial h
  have hppu : (State.resetWith p c rom).ppu = (State.resetWith q d img).ppu := congrArg resetPpu h
  cases r
  case div => exact absurd rfl hr
  all_goals simp only [ioRegRead, statRead, lyRead, lcdOn, hmode, hserial, hppu] <;> rfl

/-- At reset an IO address but that of DIV reads the same on every machine of the same mode. -/
theorem ioRead_resetWith (n : Nat) (hn : n < 0x80) (hd : n ≠ 4) :
    ioRead (State.resetWith p c rom) n = ioRead (State.resetWith q d img) n := by
  simp only [ioRead, cgbMode_resetWith, h]
  split
  · rename_i r hr
    exact ioRegRead_resetWith h rom img r fun hdiv => ioReg_ne_div n hn hd _ (hdiv ▸ hr)
  · rfl

/-- At reset an IO register address but that of DIV, and 0xFFFF, read the same on every machine of the same mode. -/
theorem memRead_resetWith (a : Word) (ha : (0xFF00 ≤ a.toNat ∧ a.toNat < 0xFF80 ∧ a.toNat ≠ 0xFF04) ∨ a = 0xFFFF) :
    memRead (State.resetWith p c rom) a = memRead (State.resetWith q d img) a := by
  rcases ha with ⟨h1, h2, h3⟩ | rfl
  · rw [memRead_resetWith_io _ _ _ a h1 h2, memRead_resetWith_io _ _ _ a h1 h2]
    exact ioRead_resetWith h rom img _ (by omega) (by omega)
  · rw [memRead, memRead, lockedOut_resetWith p c rom _ (by decide), lockedOut_resetWith q d img _ (by decide)]
    rfl

end SameMode

/-- The reset machine that stands for a mode. -/
def resetOf (cgb : Bool) : State :=
  State.resetWith { Params.default with model := if cgb then .cgb else .dmg } { Cart.blank with cgbFlag := cgb } []

/-- A row of R70's table (address, value in DMG mode, value in CGB mode): it names an IO register but DIV, or IE, and
the machine of each mode reads the row's value there. -/
def resetRow (row : Word × Byte × Byte) : Bool :=
  decide (((0xFF00 ≤ row.1.toNat ∧ row.1.toNat < 0xFF80 ∧ row.1.toNat ≠ 0xFF04) ∨ row.1 = 0xFFFF)
    ∧ memRead (resetOf false) row.1 = row.2.1 ∧ memRead (resetOf true) row.1 = row.2.2)

theorem memRead_of_resetRow {row : Word × Byte × Byte} (h : resetRow row = true) (p : Params) (c : Cart)
    (rom : List Host.Cell) :
    memRead (State.resetWith p c rom) row.1 = if cgbModeOf p.model c.cgbFlag then row.2.2 else row.2.1 := by
  simp only [resetRow, decide_eq_true_eq] at h
  obtain ⟨ha, hdmg, hcgb⟩ := h
  cases hm : cgbModeOf p.model c.cgbFlag with
  | false => exact (memRead_resetWith (hm.trans rfl) rom [] row.1 ha).trans hdmg
  | true => exact (memRead_resetWith (hm.trans rfl) rom [] row.1 ha).trans hcgb

theorem memRead_resetWith_div (p : Params) (c : Cart) (rom : List Host.Cell) :
    memRead (State.resetWith p c rom) 0xFF04 = hiByte p.divCounterReset := by
  have hr : ∀ cgb : Bool, ioReg cgb 4 = some .div := by decide
  rw [memRead_resetWith_io p c rom 0xFF04 (by decide) (by decide)]
  exact ioRead_of_ioReg (hr _)

/-- Settles O47: the mode decides what the registers read, and the table is checked on the machine of each mode. -/
theorem resetIo : Obligations.ResetIo := by
  unfold Obligations.ResetIo
  intro p c rom row hrow
  have hr : resetRow row = true := List.all_eq_true.mp (by decide +kernel) row hrow
  exact ⟨memRead_of_resetRow hr p c rom, memRead_resetWith_div p c rom⟩

end Sys2Proof.Machine
end

