-- ==== Sys2Proof/Proofs/BankInvariant.lean ====
section
/-! The bank registers that treat 0 as 1 (O44, R145, R150, R155). They stand in the MBC state alone, which only a CPU
write to the MBC's registers changes: every other move of a step leaves it. -/

namespace Sys2Proof.Machine

/-- The bank registers depend on the MBC state alone. -/
theorem BanksOk.congr {s t : State} (h : BanksOk s) (hm : t.mbc = s.mbc) : BanksOk t := by
  unfold BanksOk
  rw [hm]
  exact h

/-- A bank number written as 0 is stored as 1. -/
theorem zeroAsOne_ne_zero {w : Nat} (hw : 0 < w) (v : BitVec w) : (if v = 0 then 1 else v) ≠ 0 := by
  split
  · exact fun h => Nat.ne_of_gt hw (BitVec.one_eq_zero_iff.mp h)
  · assumption

theorem mbc1Write_bank1_ne_zero {r : Mbc1} (n : Nat) (v : Byte) (h : r.bank1 ≠ 0) : (mbc1Write r n v).bank1 ≠ 0 := by
  simp only [mbc1Write]
  split
  · exact h
  · split
    · exact zeroAsOne_ne_zero (by decide) _
    · split <;> exact h

theorem mbc2Write_romBank_ne_zero {r : Mbc2} (n : Nat) (v : Byte) (h : r.romBank ≠ 0) :
    (mbc2Write r n v).romBank ≠ 0 := by
  simp only [mbc2Write]
  split
  · split
    · exact h
    · exact zeroAsOne_ne_zero (by decide) _
  · exact h

theorem mbc3Write_romBank_ne_zero {r : Mbc3} (n : Nat) (v : Byte) (h : r.romBank ≠ 0) :
    (mbc3Write r n v).romBank ≠ 0 := by
  simp only [mbc3Write]
  split
  · exact h
  · split
    · exact zeroAsOne_ne_zero (by decide) _
    · split
      · split <;> exact h
      · exact h

theorem banksOk_mbcWrite (s : State) (n : Nat) (v : Byte) (h : BanksOk s) : BanksOk (mbcWrite s n v) := by
  unfold BanksOk at h
  simp only [mbcWrite, BanksOk]
  cases hm : s.mbc with
  | mbc0 => simp only [hm]
  | mbc1 r => exact mbc1Write_bank1_ne_zero n v (by simpa only [hm] using h)
  | mbc2 r => exact mbc2Write_romBank_ne_zero n v (by simpa only [hm] using h)
  | mbc3 r => exact mbc3Write_romBank_ne_zero n v (by simpa only [hm] using h)
  | mbc5 r => trivial

theorem banksOk_targetWrite (s : State) (g : Target) (v : Byte) (h : BanksOk s) : BanksOk (targetWrite s g v) := by
  cases g with
  | mbc n => exact banksOk_mbcWrite s n v h
  | ext n => exact h.congr (mbcWriteRam_mbc s n v)
  | cell r i => exact h.congr rfl
  | unusable => exact h
  | io n => exact h.congr (ioWrite_mbc s n v)
  | ie => exact h.congr rfl

theorem banksOk_memWrite (s : State) (a : Word) (v : Byte) (h : BanksOk s) : BanksOk (memWrite s a v) := by
  simp only [memWrite]
  split
  · exact h.congr (lockedWrite_mbc s a)
  · exact banksOk_targetWrite s _ v h

/-- Every move of a step keeps the bank registers away from 0: only CPU writes reach them. -/
theorem banksOk_stepClosed : StepClosed BanksOk where
  cpu _ _ _ _ _ _ _ h := h.congr rfl
  write := banksOk_memWrite
  divider s h := h.congr (setDivider_mbc s 0)
  armed _ _ h := h.congr rfl
  fresh _ _ h := h.congr rfl
  flag _ _ h := h.congr rfl
  dispatchCost _ _ _ h := h.congr rfl
  device s fast k h := h.congr (deviceTick_mbc s fast k)
  count _ _ h := h.congr rfl

/-- Settles O44: the moves of a step keep the bank registers away from 0, so the step does. -/
theorem bankInvariant : Obligations.BankInvariant := by
  unfold Obligations.BankInvariant
  intro s t h hs
  exact step_keeps banksOk_stepClosed h hs

end Sys2Proof.Machine
end

