-- ==== Sys2Proof/Proofs/MemoryReads.lean ====
section
/-! One byte written and one read, through the address decode: where an address leads, which byte of a memory a read
there shows, and that a byte poked elsewhere leaves the read as it was. -/

namespace Sys2Proof.Machine

theorem memRead_of_unlocked {s : State} {a : Word} (h : lockedOut s a = false) : memRead s a = memReadNoLock s a := by
  simp only [memRead, h, Bool.false_eq_true, if_false]

theorem memWrite_of_unlocked {s : State} {a : Word} (v : Byte) (h : lockedOut s a = false) :
    memWrite s a v = targetWrite s (route s a) v := by
  simp only [memWrite, h, Bool.false_eq_true, if_false]

/-- Only VRAM, OAM and the palette data are ever locked out (R109). -/
theorem lockedOut_outside (s : State) {a : Word} (hv : ¬(0x8000 ≤ a.toNat ∧ a.toNat < 0xA000))
    (ho : ¬(0xFE00 ≤ a.toNat ∧ a.toNat < 0xFEA0)) (hp : a ≠ 0xFF69 ∧ a ≠ 0xFF6B) : lockedOut s a = false := by
  simp only [lockedOut, hv, ho, hp, decide_false, Bool.false_and, Bool.or_false, or_false, Bool.and_false]

/-- An echo address mirrors one of WRAM. -/
theorem unecho_eq_or (n : Nat) : unecho n = n ∨ (0xC000 ≤ unecho n ∧ unecho n < 0xE000) := by
  unfold unecho
  split
  · exact .inr (by omega)
  · exact .inl rfl

/-- The window of the cartridge's RAM is what leads to it. -/
theorem route_eq_ext {s : State} {a : Word} {n : Nat} (h : route s a = .ext n) :
    0xA000 ≤ a.toNat ∧ a.toNat < 0xC000 ∧ n = a.toNat := by
  have he := unecho_eq_or a.toNat
  simp only [route] at h
  generalize unecho a.toNat = m at h he
  (repeat' split at h) <;> cases h
  omega

/-- Only addresses from 0xFF00 on lead to IO registers. -/
theorem route_eq_io {s : State} {a : Word} {n : Nat} (h : route s a = .io n) : 0xFF00 ≤ a.toNat := by
  have he := unecho_eq_or a.toNat
  simp only [route] at h
  generalize unecho a.toNat = m at h he
  (repeat' split at h) <;> simp at h
  omega

/-- An address below 0xE000 leads to the cartridge, to VRAM or to WRAM. -/
theorem route_below_oam {s : State} {a : Word} {r : Region} {i : Nat} (ha : a.toNat < 0xE000)
    (h : route s a = .cell r i) : (r = .vram ∧ 0x8000 ≤ a.toNat ∧ a.toNat < 0xA000) ∨ r = .wram := by
  simp only [route, unecho_low a.toNat ha] at h
  (repeat' split at h) <;> cases h
  · exact .inl ⟨rfl, by omega, by omega⟩
  · exact .inr rfl
  · exact .inr rfl

/-- The byte of a memory that a read of the address shows, a cell of MBC2 among them. -/
def shownByte (s : State) (a : Word) : Option (Region × Nat) :=
  match route s a with
  | .cell r i => some (r, i)
  | .ext n =>
    match extTarget s n with
    | .ram i => some (.cartRam, i)
    | .nibble i => some (.cartRam, i)
    | _ => none
  | _ => none

/-- The regions that addresses reach byte by byte: neither ROM nor behind an IO register. -/
def Region.addressed (r : Region) : Bool :=
  match r with
  | .cartRam | .vram | .wram | .oam | .hram => true
  | .rom | .bgPal | .objPal | .wave => false

/-- A byte poked into a memory changes no read but of the addresses that show it. -/
theorem memReadNoLock_poke_other {s : State} {r : Region} {i : Nat} {a : Word} (v : Byte) (hr : r.addressed = true)
    (h : shownByte s a ≠ some (r, i)) : memReadNoLock (poke s r i v) a = memReadNoLock s a := by
  have hp : ∀ q j, shownByte s a = some (q, j) → peek (poke s r i v) q j = peek s q j := by
    intro q j hq
    rw [peek_poke, if_neg]
    rintro ⟨rfl, rfl⟩
    exact h hq
  simp only [memReadNoLock, route_poke]
  cases ht : route s a with
  | mbc n => exact peek_poke_other s r .rom i _ v (.inl (by rintro rfl; cases hr))
  | ext n =>
    simp only [mbcReadRam, extTarget_poke]
    cases he : extTarget s n with
    | absent => rfl
    | ram j => exact hp _ _ (by simp only [shownByte, ht, he])
    | nibble j => simp only [hp .cartRam j (by simp only [shownByte, ht, he])]
    | rtcReg k => rfl
  | cell q j => exact hp _ _ (by simp only [shownByte, ht])
  | unusable => rfl
  | io n =>
    refine ioRead_poke s r i v ⟨?_, ?_, ?_⟩ n <;>
      (rintro rfl; cases hr)
  | ie => rfl

theorem memRead_poke_other {s : State} {r : Region} {i : Nat} {a : Word} (v : Byte) (hr : r.addressed = true)
    (h : shownByte s a ≠ some (r, i)) : memRead (poke s r i v) a = memRead s a := by
  simp only [memRead, lockedOut_poke, memReadNoLock_poke_other v hr h]

/-- A read shows a byte where the router names one, or where it leads to a byte or a cell of cartridge RAM. -/
theorem shownByte_eq_some {s : State} {a : Word} {r : Region} {i : Nat} (h : shownByte s a = some (r, i)) :
    route s a = .cell r i
      ∨ (r = .cartRam ∧ ∃ n, route s a = .ext n ∧ (extTarget s n = .ram i ∨ extTarget s n = .nibble i)) := by
  unfold shownByte at h
  split at h
  · rename_i ht
    cases h
    exact .inl ht
  · rename_i n ht
    split at h
    · rename_i he
      cases h
      exact .inr ⟨rfl, n, ht, .inl he⟩
    · rename_i he
      cases h
      exact .inr ⟨rfl, n, ht, .inr he⟩
    · cases h
  · cases h

/-- A read below 0xE000 shows no byte of OAM, and of VRAM only in its window. -/
theorem shownByte_below_oam {s : State} {a : Word} {r : Region} {i : Nat} (ha : a.toNat < 0xE000)
    (h : shownByte s a = some (r, i)) :
    (r = .vram ∧ 0x8000 ≤ a.toNat ∧ a.toNat < 0xA000) ∨ r = .wram ∨ r = .cartRam := by
  obtain hc | ⟨hr, -⟩ := shownByte_eq_some h
  · exact (route_below_oam ha hc).imp_right .inl
  · exact .inr (.inr hr)

end Sys2Proof.Machine
end

