-- ==== Sys2Proof/Proofs/EchoRam.lean ====
section
/-! Echo RAM (O49, R107): the address decode takes an echo address to the address it mirrors, and neither is ever locked
out. -/

namespace Sys2Proof.Machine

theorem toNat_sub_echo {a : Word} (h : 0x2000 ≤ a.toNat) : (a - 0x2000).toNat = a.toNat - 0x2000 := by
  bv_omega

theorem route_echo (s : State) {a : Word} (h : 0xE000 ≤ a.toNat) (h' : a.toNat < 0xFE00) :
    route s a = route s (a - 0x2000) := by
  have hm : unecho a.toNat = unecho (a - 0x2000).toNat := by
    rw [toNat_sub_echo (by omega), unecho_low (a.toNat - 0x2000) (by omega), unecho, if_pos ⟨h, h'⟩]
  simp only [route, hm]

/-- WRAM and its echo are never locked out. -/
theorem lockedOut_wram (s : State) {a : Word} (h : 0xC000 ≤ a.toNat) (h' : a.toNat < 0xFE00) : lockedOut s a = false :=
  lockedOut_outside s (by omega) (by omega) ⟨by rintro rfl; simp at h', by rintro rfl; simp at h'⟩

/-- Settles O49: both addresses lead to the same target. -/
theorem echoRam : Obligations.EchoRam := by
  unfold Obligations.EchoRam
  intro s a v h h'
  have hsub := toNat_sub_echo (a := a) (by omega)
  have hl : lockedOut s a = false := lockedOut_wram s (by omega) h'
  have hm : lockedOut s (a - 0x2000) = false := lockedOut_wram s (by omega) (by omega)
  constructor
  · rw [memRead_of_unlocked hl, memRead_of_unlocked hm, memReadNoLock, memReadNoLock, route_echo s h h']
  · rw [memWrite_of_unlocked v hl, memWrite_of_unlocked v hm, route_echo s h h']

end Sys2Proof.Machine
end

