-- ==== Sys2Proof/Proofs/AccessLockout.lean ====
section
/-! The PPU access lockout (O51, R109): where it holds, a read gives 0xFF and a write is dropped, but for the index step
of the palette data. -/

namespace Sys2Proof.Machine

theorem lockedOut_off {s : State} (a : Word) (h : s.params.accessLockout = false ∨ s.ppu.lcdc.getLsbD 7 = false) :
    lockedOut s a = false := by
  rcases h with h | h <;> simp only [lockedOut, lcdOn, h, Bool.false_and, Bool.and_false]

theorem memRead_of_locked {s : State} {a : Word} (h : lockedOut s a = true) : memRead s a = 0xFF := by
  simp only [memRead, h, if_true]

theorem memWrite_of_locked {s : State} {a : Word} (v : Byte) (h : lockedOut s a = true) :
    memWrite s a v = lockedWrite s a := by
  simp only [memWrite, h, if_true]

/-- Outside the palette data a locked-out write changes nothing. -/
theorem lockedWrite_low (s : State) {a : Word} (h : a.toNat < 0xFEA0) : lockedWrite s a = s := by
  have hb : a ≠ 0xFF69 := by rintro rfl; simp at h
  have ho : a ≠ 0xFF6B := by rintro rfl; simp at h
  simp only [lockedWrite, hb, ho, false_and, if_false]

section Lockout

variable {s : State} (hp : s.params.accessLockout = true) (hl : s.ppu.lcdc.getLsbD 7 = true)

include hp hl

theorem lockedOut_vram {a : Word} (hm : s.ppu.mode = .pixelTransfer) (h : 0x8000 ≤ a.toNat) (h' : a.toNat < 0xA000) :
    lockedOut s a = true := by
  simp [lockedOut, lcdOn, hp, hl, hm, h, h']

theorem lockedOut_oam {a : Word} (hm : s.ppu.mode = .oamScan ∨ s.ppu.mode = .pixelTransfer) (h : 0xFE00 ≤ a.toNat)
    (h' : a.toNat < 0xFEA0) : lockedOut s a = true := by
  simp [lockedOut, lcdOn, hp, hl, hm, h, h']

theorem lockedOut_paletteData {a : Word} (hm : s.ppu.mode = .pixelTransfer) (ha : a = 0xFF69 ∨ a = 0xFF6B) :
    lockedOut s a = true := by
  simp only [lockedOut, lcdOn, hp, hl, hm, ha, decide_true, Bool.and_self, Bool.or_true]

end Lockout

/-- Settles O51: where the lockout holds by R109, a read gives 0xFF and `lockedWrite` is the whole write. -/
theorem accessLockout : Obligations.AccessLockout := by
  unfold Obligations.AccessLockout
  intro s a v
  refine ⟨lockedOut_off a, fun hp hl => ⟨?_, fun hm hc => ?_⟩⟩
  · rintro (⟨hm, h, h'⟩ | ⟨hm, h, h'⟩)
    · have hk := lockedOut_vram hp hl hm h h'
      exact ⟨memRead_of_locked hk, (memWrite_of_locked v hk).trans (lockedWrite_low s (by omega))⟩
    · have hk := lockedOut_oam hp hl hm h h'
      exact ⟨memRead_of_locked hk, (memWrite_of_locked v hk).trans (lockedWrite_low s h')⟩
  · have hb := lockedOut_paletteData hp hl hm (.inl rfl)
    have ho := lockedOut_paletteData hp hl hm (.inr rfl)
    refine ⟨memRead_of_locked hb, memRead_of_locked ho, (memWrite_of_locked v hb).trans ?_,
      (memWrite_of_locked v ho).trans ?_⟩ <;>
      simp [lockedWrite, hc]

end Sys2Proof.Machine
end

