-- ==== Sys2Proof/Proofs/MemoryAccess.lean ====
section
/-! Memory behind the address decode (O48): bytes of RAM, ROM behind each MBC, the cells of MBC2 and the clock of
MBC3. -/

namespace Sys2Proof.Machine

/-! Bytes of RAM. -/

/-- An address stands for a byte where the router names one, or where it leads to a byte of cartridge RAM. -/
theorem cellOf_eq_some {s : State} {a : Word} {r : Region} {i : Nat} (h : cellOf s a = some (r, i)) :
    route s a = .cell r i ∨ (r = .cartRam ∧ ∃ n, route s a = .ext n ∧ extTarget s n = .ram i) := by
  unfold cellOf at h
  split at h
  · rename_i ht
    cases h
    exact .inl ht
  · rename_i n ht
    split at h
    · rename_i he
      cases h
      exact .inr ⟨rfl, n, ht, he⟩
    · cases h
  · cases h

theorem cellOf_addressed {s : State} {a : Word} {r : Region} {i : Nat} (h : cellOf s a = some (r, i)) :
    r.addressed = true := by
  obtain hc | ⟨rfl, -⟩ := cellOf_eq_some h
  · rcases route_region hc with rfl | rfl | rfl | rfl <;> rfl
  · rfl

theorem memReadNoLock_cell {s : State} {a : Word} {r : Region} {i : Nat} (h : cellOf s a = some (r, i)) :
    memReadNoLock s a = peek s r i := by
  obtain hc | ⟨rfl, n, ht, he⟩ := cellOf_eq_some h
  · simp only [memReadNoLock, hc]
  · simp only [memReadNoLock, ht, mbcReadRam, he]

theorem targetWrite_cell {s : State} {a : Word} {r : Region} {i : Nat} (v : Byte) (h : cellOf s a = some (r, i)) :
    targetWrite s (route s a) v = poke s r i v := by
  obtain hc | ⟨rfl, n, ht, he⟩ := cellOf_eq_some h
  · simp only [targetWrite, hc]
  · simp only [targetWrite, ht, mbcWriteRam, he]

theorem cellOf_poke (s : State) (r : Region) (i : Nat) (v : Byte) (a : Word) :
    cellOf (poke s r i v) a = cellOf s a := rfl

theorem ramAt_ne_nibble (s : State) (bank n i : Nat) : ramAt s bank n ≠ .nibble i := by
  unfold ramAt
  split <;> nofun

theorem extTarget_mbc2 {s : State} {r : Mbc2} (hm : s.mbc = .mbc2 r) (n : Nat) :
    extTarget s n = if r.ramEnable then .nibble (n % 512) else .absent := by
  simp only [extTarget, hm]

/-- Only MBC2 has cells of 4 bits. -/
theorem mbc2_of_nibble {s : State} {n i : Nat} (h : extTarget s n = .nibble i) : ∃ r, s.mbc = .mbc2 r := by
  simp only [extTarget] at h
  cases hm : s.mbc with
  | mbc2 r => exact ⟨r, rfl⟩
  | _ =>
    simp only [hm] at h
    (repeat' split at h) <;> simp [ramAt_ne_nibble] at h

/-- MBC2 has no bytes of cartridge RAM. -/
theorem extTarget_mbc2_ne_ram {s : State} {r : Mbc2} (hm : s.mbc = .mbc2 r) (n i : Nat) : extTarget s n ≠ .ram i := by
  rw [extTarget_mbc2 hm]
  split <;> nofun

/-- Two addresses that stand for different bytes show different bytes: no cartridge has both bytes of RAM and cells of 4
bits. -/
theorem shownByte_ne {s : State} {a b : Word} {c : Region × Nat} (ha : cellOf s a = some c) (hb : cellOf s b ≠ some c) :
    shownByte s b ≠ some c := by
  obtain ⟨r, i⟩ := c
  intro hs
  obtain hc | ⟨rfl, n, ht, he | he⟩ := shownByte_eq_some hs
  · exact hb (by simp only [cellOf, hc])
  · exact hb (by simp only [cellOf, ht, he])
  · obtain hc | ⟨-, m, -, hm⟩ := cellOf_eq_some ha
    · rcases route_region hc with h | h | h | h <;> cases h
    · obtain ⟨q, hq⟩ := mbc2_of_nibble he
      exact extTarget_mbc2_ne_ram hq m i hm

/-- A byte stored at an unlocked address reads back there and changes no address that does not stand for it. -/
theorem storeFrame_memWrite (s : State) (a : Word) (v : Byte) : StoreFrame s (memWrite s a v) a v := by
  rintro ⟨r, i⟩ hc hl
  rw [memWrite_of_unlocked v hl, targetWrite_cell v hc]
  constructor
  · rw [memRead_of_unlocked (by rwa [lockedOut_poke]), memReadNoLock_cell (by rwa [cellOf_poke]), peek_poke_same]
  · intro b hb
    exact memRead_poke_other v (cellOf_addressed hc) (shownByte_ne hc hb)

/-! ROM. -/

theorem memRead_mbc (s : State) {a : Word} (h : a.toNat < 0x8000) :
    memRead s a = peek s .rom (romIndex s a.toNat) := by
  rw [memRead_of_unlocked (lockedOut_cartridge s a (.inl h))]
  simp only [memReadNoLock, route_rom s a h, mbcReadRom]

theorem memWrite_mbc (s : State) {a : Word} (v : Byte) (h : a.toNat < 0x8000) :
    memWrite s a v = mbcWrite s a.toNat v := by
  rw [memWrite_of_unlocked v (lockedOut_cartridge s a (.inl h)), route_rom s a h, targetWrite]

/-! The window of the cartridge's RAM. -/

section Window

variable (s : State) {a : Word} (v : Byte) (h : 0xA000 ≤ a.toNat) (h' : a.toNat < 0xC000)

include h h'

theorem memRead_ext : memRead s a = mbcReadRam s a.toNat := by
  rw [memRead_of_unlocked (lockedOut_cartridge s a (.inr ⟨h, h'⟩)), memReadNoLock, route_ext s a h h']

theorem memWrite_ext : memWrite s a v = mbcWriteRam s a.toNat v := by
  rw [memWrite_of_unlocked v (lockedOut_cartridge s a (.inr ⟨h, h'⟩)), route_ext s a h h', targetWrite]

end Window

/-! MBC2. -/

theorem memRead_mbc2_disabled {s : State} {r : Mbc2} {a : Word} (hm : s.mbc = .mbc2 r) (he : r.ramEnable = false)
    (h : 0xA000 ≤ a.toNat) (h' : a.toNat < 0xC000) : memRead s a = 0xFF := by
  simp [memRead_ext s h h', mbcReadRam, extTarget_mbc2 hm, he]

theorem memWrite_mbc2_disabled {s : State} {r : Mbc2} {a : Word} (v : Byte) (hm : s.mbc = .mbc2 r)
    (he : r.ramEnable = false) (h : 0xA000 ≤ a.toNat) (h' : a.toNat < 0xC000) : memWrite s a v = s := by
  simp [memWrite_ext s v h h', mbcWriteRam, extTarget_mbc2 hm, he]

section Mbc2

variable {s : State} {r : Mbc2} {a : Word} (hm : s.mbc = .mbc2 r) (he : r.ramEnable = true)

include hm he

theorem memRead_mbc2 (h : 0xA000 ≤ a.toNat) (h' : a.toNat < 0xC000) :
    memRead s a = 0xF0 ||| peek s .cartRam (a.toNat % 512) := by
  simp only [memRead_ext s h h', mbcReadRam, extTarget_mbc2 hm, he, if_true]

theorem memWrite_mbc2 (v : Byte) (h : 0xA000 ≤ a.toNat) (h' : a.toNat < 0xC000) :
    memWrite s a v = poke s .cartRam (a.toNat % 512) (v &&& 0x0F) := by
  simp only [memWrite_ext s v h h', mbcWriteRam, extTarget_mbc2 hm, he, if_true]

/-- A cell of MBC2 shows only in the window, at the addresses with its low 9 bits. -/
theorem shownByte_mbc2 {i : Nat} (hs : shownByte s a = some (.cartRam, i)) :
    0xA000 ≤ a.toNat ∧ a.toNat < 0xC000 ∧ a.toNat % 512 = i := by
  obtain hc | ⟨-, n, ht, hn⟩ := shownByte_eq_some hs
  · rcases route_region hc with h | h | h | h <;> cases h
  · obtain ⟨h, h', rfl⟩ := route_eq_ext ht
    rw [extTarget_mbc2 hm, if_pos he] at hn
    rcases hn with hn | hn <;> cases hn
    exact ⟨h, h', rfl⟩

/-- A write to a cell of MBC2 is read at every address that shows the cell, and nowhere else. -/
theorem memRead_memWrite_mbc2 (v : Byte) (h : 0xA000 ≤ a.toNat) (h' : a.toNat < 0xC000) (b : Word) :
    memRead (memWrite s a v) b =
      if 0xA000 ≤ b.toNat ∧ b.toNat < 0xC000 ∧ b.toNat % 512 = a.toNat % 512 then 0xF0 ||| (v &&& 0x0F)
      else memRead s b := by
  rw [memWrite_mbc2 hm he v h h']
  split
  · rename_i hb
    obtain ⟨hb1, hb2, hb3⟩ := hb
    rw [memRead_mbc2 (s := poke s .cartRam (a.toNat % 512) (v &&& 0x0F)) hm he hb1 hb2, hb3, peek_poke_same]
  · rename_i hb
    exact memRead_poke_other _ rfl fun hs => hb (shownByte_mbc2 hm he hs)

end Mbc2

/-! The clock of MBC3. -/

section Clock

variable {s : State} {r : Mbc3} {a : Word} {k : Byte} (hm : s.mbc = .mbc3 r) (he : r.ramEnable = true)
  (hc : s.cart.rtc = true) (hk : r.ramSelect = k) (hk' : 3 < k.toNat)

include hm he hc hk hk'

theorem extTarget_clock (n : Nat) : extTarget s n = .rtcReg k.toNat := by
  subst hk
  have hs : ¬r.ramSelect.toNat ≤ 3 := by omega
  simp only [extTarget, hm, he, hs, hc, Bool.not_true, Bool.false_eq_true, if_false, if_true]

variable (h : 0xA000 ≤ a.toNat) (h' : a.toNat < 0xC000)

include h h'

theorem memRead_clock : memRead s a = rtcRead s.rtc k.toNat := by
  simp only [memRead_ext s h h', mbcReadRam, extTarget_clock hm he hc hk hk']

theorem memWrite_clock (v : Byte) : memWrite s a v = { s with rtc := rtcWrite s.rtc k.toNat v } := by
  simp only [memWrite_ext s v h h', mbcWriteRam, extTarget_clock hm he hc hk hk']

theorem memRead_memWrite_clock (v : Byte) :
    memRead (memWrite s a v) a = rtcRead (rtcWrite s.rtc k.toNat v) k.toNat := by
  rw [memWrite_clock hm he hc hk hk' h h' v]
  exact memRead_clock (s := { s with rtc := rtcWrite s.rtc k.toNat v }) hm he hc hk hk' h h'

end Clock

/-! The fields of the clock as numbers. -/

theorem append_toNat {m n : Nat} (x : BitVec m) (y : BitVec n) : (x ++ y).toNat = x.toNat * 2 ^ n + y.toNat := by
  rw [BitVec.toNat_append, Nat.shiftLeft_eq, Nat.mul_comm, Nat.two_pow_add_eq_or_of_lt y.isLt]

theorem lowBits_toNat {w : Nat} (v : BitVec w) (n : Nat) : (v.extractLsb' 0 n).toNat = v.toNat % 2 ^ n := by simp

theorem dayLow_toNat (d : BitVec 9) (v : Byte) : (d.extractLsb' 8 1 ++ v).toNat = d.toNat / 256 * 256 + v.toNat := by
  rw [append_toNat, BitVec.extractLsb'_toNat, Nat.shiftRight_eq_div_pow]
  omega

theorem dayHigh_toNat (d : BitVec 9) (v : Byte) :
    (v.extractLsb' 0 1 ++ d.extractLsb' 0 8).toNat = v.toNat % 2 * 256 + d.toNat % 256 := by
  simp only [append_toNat, lowBits_toNat, Nat.reducePow]

/-- Settles O48: a RAM byte by the frame of a poke, ROM by the bank of its variant, MBC2 and the clock by what the window
leads to there. -/
theorem memoryAccess : Obligations.MemoryAccess := by
  unfold Obligations.MemoryAccess
  refine ⟨storeFrame_memWrite, fun s a v h => ⟨?_, ?_⟩, fun s r a v hm h h' => ⟨fun he => ?_, fun he => ?_⟩,
    fun s r a v hm h h' he hc => ?_⟩
  · refine (memRead_mbc s h).trans (congrArg (peek s .rom) ?_)
    simp only [romIndex, lowRomBank, highRomBank]
    -- The statement and `romIndex` agree variant by variant, up to the order of MBC1's factor 32.
    by_cases hl : a.toNat < 0x4000 <;> cases s.mbc <;> simp [hl, Nat.mul_comm]
  · rw [memWrite_mbc s v h, mbcWrite_mem]
  · exact ⟨memRead_mbc2_disabled hm he h h', memWrite_mbc2_disabled v hm he h h'⟩
  · exact ⟨memRead_mbc2 hm he h h', memRead_memWrite_mbc2 hm he v h h'⟩
  · refine ⟨fun hk => ?_, fun hk => ?_, fun hk => ?_, fun hk => ?_, fun hk => ?_⟩ <;>
      rw [memRead_memWrite_clock hm he hc hk (by decide) h h' v, memRead_clock hm he hc hk (by decide) h h',
        memWrite_clock hm he hc hk (by decide) h h' v]
    · exact ⟨rfl, rfl, lowBits_toNat v 6, rfl⟩
    · exact ⟨rfl, rfl, lowBits_toNat v 6⟩
    · exact ⟨rfl, rfl, lowBits_toNat v 5⟩
    · exact ⟨rfl, rfl, dayLow_toNat s.rtc.day v⟩
    · exact ⟨rfl, rfl, dayHigh_toNat s.rtc.day v, rfl, rfl⟩

end Sys2Proof.Machine
end

