-- ==== Sys2Proof/Proofs/BlockCopies.lean ====
section
/-! The copies of the DMA controllers (O52, O53, R180, R187). Each pokes one byte after the other into a region its
sources never lie in, so every byte read on the way is the byte of the state before the copy. -/

namespace Sys2Proof.Machine

/-- Bytes poked into a region one after the other, in the order of the list: at index `at_ i` the byte `f` gives for
`i` in the state reached so far. -/
def pokeEach (s : State) (r : Region) (at_ : Nat → Nat) (f : State → Nat → Byte) (is : List Nat) : State :=
  is.foldl (fun u i => poke u r (at_ i) (f u i)) s

theorem pokeEach_cons (s : State) (r : Region) (at_ : Nat → Nat) (f : State → Nat → Byte) (j : Nat) (is : List Nat) :
    pokeEach s r at_ f (j :: is) = pokeEach (poke s r (at_ j) (f s j)) r at_ f is := rfl

theorem peek_pokeEach_other (s : State) {r q : Region} {at_ : Nat → Nat} (f : State → Nat → Byte) {is : List Nat}
    {k : Nat} (h : q ≠ r ∨ ∀ i ∈ is, k ≠ at_ i) : peek (pokeEach s r at_ f is) q k = peek s q k := by
  induction is generalizing s with
  | nil => rfl
  | cons j rest ih =>
    have hj : q ≠ r ∨ k ≠ at_ j := h.imp_right fun h => h j List.mem_cons_self
    rw [pokeEach_cons, ih _ (h.imp_right fun h i hi => h i (List.mem_cons_of_mem j hi)), peek_poke_other s r q _ k _ hj]

/-- Where no later byte falls on the same index, the byte poked for `i` stays; `P` is what the pokes keep and what fixes
that byte. -/
theorem peek_pokeEach {P : State → Prop} {s : State} {r : Region} {at_ : Nat → Nat} {f : State → Nat → Byte}
    {is : List Nat} {i : Nat} {b : Byte} (hkeep : ∀ u k w, P u → P (poke u r k w)) (hf : ∀ u, P u → f u i = b)
    (hs : P s) (hinj : ∀ j ∈ is, at_ i = at_ j → i = j) (hi : i ∈ is) :
    peek (pokeEach s r at_ f is) r (at_ i) = b := by
  induction is generalizing s with
  | nil => cases hi
  | cons j rest ih =>
    have hinj' : ∀ m ∈ rest, at_ i = at_ m → i = m := fun m hm => hinj m (List.mem_cons_of_mem j hm)
    by_cases hr : i ∈ rest
    · exact ih (hkeep s _ _ hs) hinj' hr
    · obtain rfl : i = j := (List.mem_cons.mp hi).resolve_right hr
      have hlast : ∀ m ∈ rest, at_ i ≠ at_ m := fun m hm he => hr (hinj' m hm he ▸ hm)
      rw [pokeEach_cons, peek_pokeEach_other _ f (.inr hlast), peek_poke_same, hf s hs]

end Sys2Proof.Machine
end

