-- ==== Sys2Proof/Proofs/OamDma.lean ====
section
/-! OAM DMA (O52, R180): its sources lie below 0xE000, so they are neither OAM nor a PPU register. -/

namespace Sys2Proof.Machine

/-- Below 0xE000 no read shows a PPU register. -/
theorem memReadNoLock_ppu (s : State) (p : Ppu) {a : Word} (h : a.toNat < 0xE000) :
    memReadNoLock { s with ppu := p } a = memReadNoLock s a := by
  have hr : route { s with ppu := p } a = route s a := rfl
  simp only [memReadNoLock, hr]
  cases ht : route s a with
  | io n => exact absurd (route_eq_io ht) (by omega)
  | _ => rfl

/-- DmaRead reads below 0xE000. -/
theorem dmaAddress_lt (a : Word) : (if 0xE000 ≤ a.toNat then a - 0x2000 else a).toNat < 0xE000 := by
  have hlt := a.isLt
  split
  · rw [toNat_sub_echo (by omega)]
    omega
  · omega

/-- DmaRead never reads OAM. -/
theorem dmaRead_poke_oam (s : State) (i : Nat) (v : Byte) (a : Word) : dmaRead (poke s .oam i v) a = dmaRead s a := by
  refine memReadNoLock_poke_other v rfl fun hs => ?_
  rcases shownByte_below_oam (dmaAddress_lt a) hs with ⟨h, -⟩ | h | h <;> cases h

theorem oamCopy_eq_pokeEach (s : State) (v : Byte) (is : List Nat) :
    oamCopy s v is = pokeEach s .oam id (fun u i => dmaRead u (joinBytes v 0 + BitVec.ofNat 16 i)) is := rfl

theorem ioReg_dma (cgb : Bool) : ioReg cgb 0x46 = some .dma := by
  cases cgb <;> rfl

theorem memWrite_dma (s : State) (v : Byte) : memWrite s 0xFF46 v = dmaWrite s v := by
  have hl : lockedOut s 0xFF46 = false := lockedOut_outside s (by decide) (by decide) (by decide)
  have hr : route s 0xFF46 = .io 0x46 := route_io s _ (by decide) (by decide)
  simp only [memWrite_of_unlocked v hl, hr, targetWrite, ioWrite, ioReg_dma, ioRegWrite]

theorem dmaSource_eq_ofNat (v : Byte) (i : Nat) :
    joinBytes v 0 + BitVec.ofNat 16 i = BitVec.ofNat 16 (v.toNat * 256 + i) := by
  apply BitVec.eq_of_toNat_eq
  simp [joinBytes_toNat]

/-- Byte i of the copy, as a read of the state before the DMA write. -/
theorem dmaRead_source (s : State) (p : Ppu) (v : Byte) {i : Nat} (hi : i < 160) :
    let src := v.toNat * 256 + i
    dmaRead { s with ppu := p } (joinBytes v 0 + BitVec.ofNat 16 i)
      = memReadNoLock s (BitVec.ofNat 16 (if src < 0xE000 then src else src - 0x2000)) := by
  have hv := v.isLt
  rw [dmaRead, memReadNoLock_ppu s p (dmaAddress_lt _), dmaSource_eq_ofNat]
  congr 1
  have hn : (BitVec.ofNat 16 (v.toNat * 256 + i)).toNat = v.toNat * 256 + i := by
    rw [BitVec.toNat_ofNat]
    omega
  rw [hn]
  by_cases hs : v.toNat * 256 + i < 0xE000
  · rw [if_neg (by omega), if_pos hs]
  · rw [if_pos (by omega), if_neg hs]
    apply BitVec.eq_of_toNat_eq
    rw [toNat_sub_echo (by omega), hn, BitVec.toNat_ofNat]
    omega

/-- Settles O52: the copy is a run of pokes into OAM, which its sources never read. -/
theorem oamDma : Obligations.OamDma := by
  unfold Obligations.OamDma
  intro s v
  rw [memWrite_dma]
  refine ⟨by simp [dmaWrite], fun i hi => ?_, fun r i h => ?_, dmaWrite_cpu s v, dmaWrite_cost s v, ?_⟩
  · refine (?_ : peek (dmaWrite s v) .oam i = _).trans (dmaRead_source s { s.ppu with dma := v } v hi)
    rw [dmaWrite, oamCopy_eq_pokeEach]
    exact peek_pokeEach (P := fun u => dmaRead u _ = _) (fun u k w hu => (dmaRead_poke_oam u k w _).trans hu)
      (fun u hu => hu) rfl (fun j _ h => h) (List.mem_range.mpr hi)
  · have hne : r ≠ .oam ∨ ∀ k ∈ List.range 160, i ≠ id k :=
      h.imp_right fun hi k hk => by have := List.mem_range.mp hk; simp only [id]; omega
    rw [dmaWrite, oamCopy_eq_pokeEach, peek_pokeEach_other _ _ hne]
    rfl
  · constructor <;> simp

end Sys2Proof.Machine
end

