-- ==== Sys2Proof/Proofs/HdmaBlock.lean ====
section
/-! One HDMA block (O53, R187): a documented source lies outside VRAM, where the block goes. -/

namespace Sys2Proof.Machine

/-- All 16 bytes of a block at this source are documented: they lie in ROM, cartridge RAM or WRAM. -/
def DocumentedSource (src : Word) : Prop := src.toNat ≤ 0x7FF0 ∨ (0xA000 ≤ src.toNat ∧ src.toNat ≤ 0xDFF0)

section Documented

variable {s : State} {i : Nat} (h : DocumentedSource s.hdma.src) (hi : i < 16)

include h hi

theorem blockAddress_toNat : (s.hdma.src + BitVec.ofNat 16 i).toNat = s.hdma.src.toNat + i := by
  unfold DocumentedSource at h
  rw [BitVec.toNat_add, BitVec.toNat_ofNat]
  omega

theorem blockByte_documented : blockByte s i = memReadNoLock s (s.hdma.src + BitVec.ofNat 16 i) := by
  have ha := blockAddress_toNat h hi
  unfold DocumentedSource at h
  have hb : badSource s.hdma.src = false := by
    simp only [badSource, Bool.or_eq_false_iff, decide_eq_false_iff_not]
    omega
  rw [blockByte, hb, if_neg (by decide), dmaRead, if_neg (by omega)]

theorem blockByte_poke_vram (k : Nat) (v : Byte) : blockByte (poke s .vram k v) i = blockByte s i := by
  rw [blockByte_documented (s := poke s .vram k v) h hi, blockByte_documented h hi, poke_hdma]
  have ha := blockAddress_toNat h hi
  unfold DocumentedSource at h
  refine memReadNoLock_poke_other v rfl fun hs => ?_
  have hlt : (s.hdma.src + BitVec.ofNat 16 i).toNat < 0xE000 := by omega
  rcases shownByte_below_oam hlt hs with ⟨-, hv⟩ | hr | hr
  · omega
  · cases hr
  · cases hr

end Documented

theorem blockCopy_eq_pokeEach (s : State) (is : List Nat) :
    blockCopy s is = pokeEach s .vram (blockIndex s) blockByte is := by
  induction is generalizing s with
  | nil => simp only [blockCopy, pokeEach, List.foldl_nil]
  | cons j rest ih => exact ih (poke s .vram (blockIndex s j) (blockByte s j))

theorem peek_hdmaBlock (s : State) (r : Region) (k : Nat) :
    peek (hdmaBlock s) r k = peek (pokeEach s .vram (blockIndex s) blockByte (List.range 16)) r k := by
  rw [← blockCopy_eq_pokeEach]
  exact peek_congr (hdmaBlock_mem s) r k

/-- The 16 bytes of a block go to 16 different indices. -/
theorem blockIndex_inj (s : State) {i j : Nat} (hi : i < 16) (hj : j < 16) (h : blockIndex s i = blockIndex s j) :
    i = j := by
  simp only [blockIndex] at h
  omega

theorem hdmaBlock_hdma (s : State) : (hdmaBlock s).hdma = blockAdvance s.hdma := by
  simp [hdmaBlock]

/-- Settles O53: the registers by `blockAdvance`, the bytes as a run of pokes into VRAM. -/
theorem hdmaBlockCopy : Obligations.HdmaBlockCopy := by
  unfold Obligations.HdmaBlockCopy
  intro s
  have hregs := hdmaBlock_hdma s
  refine ⟨congrArg Hdma.src hregs, congrArg Hdma.dst hregs, fun h => ?_, fun h => ?_, fun h i hi => ?_, fun r k h => ?_,
    hdmaBlock_cpu s, hdmaBlock_cost s⟩
  · simp [hregs, blockAdvance, h]
  · simp only [hregs, blockAdvance, h, if_false, ne_eq, not_false_eq_true, decide_true, Bool.and_true, and_self]
  · rw [peek_hdmaBlock, ← blockByte_documented h hi]
    exact peek_pokeEach (P := fun u => DocumentedSource u.hdma.src ∧ blockByte u i = blockByte s i)
      (fun u k w ⟨hd, hu⟩ => ⟨hd, (blockByte_poke_vram hd hi k w).trans hu⟩) (fun u hu => hu.2) ⟨h, rfl⟩
      (fun j hj => blockIndex_inj s hi (List.mem_range.mp hj)) (List.mem_range.mpr hi)
  · rw [peek_hdmaBlock]
    exact peek_pokeEach_other s blockByte (h.imp_right fun h i hi => h i (List.mem_range.mp hi))

end Sys2Proof.Machine
end

