-- ==== Sys2Proof/Proofs/LoadRom.lean ====
section
/-! Loading a cartridge (O60, R131-R133, R800): what the header checks answer, and the ROM of the machine loaded. -/

namespace Sys2Proof.Machine

/-- The cart types of R131: every other code names no variant. -/
theorem cartType_eq_none_iff (code : Byte) :
    cartType code = none ↔ ¬code.toNat ∈ [0x00, 0x01, 0x02, 0x03, 0x05, 0x06, 0x08, 0x09, 0x0F, 0x10, 0x11, 0x12, 0x13,
      0x19, 0x1A, 0x1B, 0x1C, 0x1D, 0x1E] := by
  rw [cartType, List.lookup_eq_none_iff]
  simp [cartTypesLow, cartTypesHigh]

theorem loadRom_refused {s : State} {img : List Byte} (h : romInfo img = .error .invalidRom) :
    loadRom s img = .error .invalidRom := by
  simp only [loadRom, h]

theorem romInfo_unchecked {img : List Byte} (h : img.length < 0x150 ∨ headerChecksum img ≠ headerByte img 0x014D) :
    romInfo img = .error .invalidRom := if_pos h

theorem romInfo_unknown {img : List Byte} (h : cartType (headerByte img 0x0147) = none) :
    romInfo img = .error .invalidRom := by
  simp only [romInfo, h, ite_self]

theorem romInfo_valid {img : List Byte} {k : CartType} (hlen : 0x150 ≤ img.length)
    (hsum : headerChecksum img = headerByte img 0x014D) (hk : cartType (headerByte img 0x0147) = some k) :
    romInfo img = .ok (cartOf img k) := by
  rw [romInfo, if_neg (not_or.mpr ⟨by omega, not_not_intro hsum⟩), hk]

/-- ROM right after a load: the image, and 0xFF beyond it (R134). -/
theorem peek_rom_resetWith (p : Params) (c : Cart) (img : List Byte) (i : Nat) :
    peek (State.resetWith p c (storeOfList Region.rom.blank 0 img)) .rom i = img.getD i 0xFF :=
  (storeRead_storeOfList Region.rom.blank 0 i img).trans (if_pos (Nat.zero_le i))

/-- Settles O60: `romInfo` decides, and an accepted image is the reset state over its bytes. -/
theorem loadRomSpec : Obligations.LoadRom := by
  unfold Obligations.LoadRom
  intro s img
  refine ⟨fun h => ?_, fun h => ?_, cartType_eq_none_iff _, fun h => ?_, fun k hlen hsum hk => ?_⟩
  · exact loadRom_refused (romInfo_unchecked (.inl h))
  · exact loadRom_refused (romInfo_unchecked (.inr h))
  · exact loadRom_refused (romInfo_unknown ((cartType_eq_none_iff _).mpr h))
  · refine ⟨_, ?_, rfl, rfl, rfl, peek_rom_resetWith s.params (cartOf img k) img⟩
    simp only [loadRom, romInfo_valid hlen hsum hk]

end Sys2Proof.Machine
end

