-- ==== Sys2Proof/Proofs/Encoding.lean ====
section
/-! Encodings (O1, O2, R200-R211): the first byte of an encoding tells how many bytes it has, so the decoder takes
exactly those and leaves the rest; and on those bytes the decoder's field tables answer the instruction that the opcode
maps put there. -/

namespace Sys2Proof.Machine

/-- What the decoder's field tables answer on the bytes of one instruction, an absent operand byte being 0. -/
def decodeWord : List Byte → Option Instr
  | [op] => some (decodeBytes op 0 0)
  | [op, b1] => some (decodeBytes op b1 0)
  | [op, b1, b2] => some (decodeBytes op b1 b2)
  | _ => none

/-- The decoder takes the bytes that the first one asks for, and no more. -/
theorem decode_append {bs : List Byte} {i : Instr} (hlen : bs.length = instrLength (bs.headD 0))
    (h : decodeWord bs = some i) (rest : List Byte) : decode (bs ++ rest) = .ok (i, rest) := by
  match bs with
  | [op] | [op, _] | [op, _, _] =>
    change _ = instrLength op at hlen
    cases h
    simp only [decode, List.cons_append, List.nil_append, ← hlen]
    rfl
  | [] | _ :: _ :: _ :: _ :: _ => cases h

/-- The first byte of an encoding alone tells its length (R200), over every instruction. -/
theorem length_encode (i : Instr) : Laws.Length.Statement i := by
  cases i with
  | prefixCb => exact fun h => absurd rfl h
  | _ => exact fun _ => rfl

/-- The field tables R207 and R209 give back every entry of the maps R208 and R209; a 16-bit operand is joined again
from its two bytes (R206). -/
theorem decodeWord_encode {i : Instr} (h : WellFormed i) : decodeWord (encode i) = some i := by
  cases i with
  | prefixCb => exact absurd rfl h
  | ldBCd16 v | ldDEd16 v | ldHLd16 v | ldSPd16 v | ldAtA16SP v | ldAtA16A v | ldAAtA16 v | jp v | jpNZ v | jpZ v
  | jpNC v | jpC v | call v | callNZ v | callZ v | callNC v | callC v =>
    exact congrArg (some ∘ _) (joinBytes_hi_lo v)
  | _ => rfl

/-- Settles O2: the decoder takes the encoding as one word and reads the instruction from it. -/
theorem decodeEncodeAll : Obligations.DecodeEncodeAll := by
  unfold Obligations.DecodeEncodeAll
  intro i h rest
  exact decode_append (length_encode i h) (decodeWord_encode h) rest

/-- Settles O1: each word is the encoding of its instruction (O2), but for the lone prefix, which asks for a byte more. -/
theorem decodeKnownWords : Obligations.DecodeKnownWords := by
  unfold Obligations.DecodeKnownWords
  exact ⟨decodeEncodeAll .ldBC nofun [], decodeEncodeAll (.ldAd8 0x7E) nofun [],
    decodeEncodeAll (.ldAtA16SP 0xC100) nofun [], decodeEncodeAll .pushAF nofun [], decodeEncodeAll .adcAAtHL nofun [],
    decodeEncodeAll (.addSPe8 0xFE) nofun [], decodeEncodeAll .swapA nofun [], decodeEncodeAll .set7AtHL nofun [],
    decodeEncodeAll (.callC 0x1234) nofun [], decodeEncodeAll .halt nofun [0x3C], decodeEncodeAll (.stop 0x00) nofun [],
    decodeEncodeAll .illegalD3 nofun [], rfl⟩

end Sys2Proof.Machine
end

