-- ==== Sys2Proof/Proofs/Loads8.lean ====
section
/-! The 8-bit loads (O3-O7, R300-R318). A load writes one register and leaves the rest (`Loaded`); a store is `MemWrite`
at its address and leaves the CPU (`Stored`); the forms that step HL do the same and then write the pair HL. -/

namespace Sys2Proof.Machine

/-! Loads of one register. -/

/-- The whole effect of an instruction that loads `v` into the register `r`, at a cost. -/
def Loaded (s t : State) (r : Reg8) (v : Byte) (cost : Nat) : Prop :=
  readReg t r = v ∧ OtherRegs s t [r] ∧ t.cpu.flags = s.cpu.flags ∧ t.cpu.sp = s.cpu.sp ∧ t.cpu.pc = s.cpu.pc
    ∧ Quiet s t cost

theorem otherRegs_writeReg (s : State) (r : Reg8) (v : Byte) : OtherRegs s (writeReg s r v) [r] :=
  fun q hq => readReg_writeReg_other s r q v (List.ne_of_not_mem_cons hq)

theorem quiet_writeReg (s : State) (r : Reg8) (v : Byte) (cost : Nat) :
    Quiet s (spend (writeReg s r v) cost) cost := by
  cases r <;> exact quiet_cpu s _ cost ⟨rfl, rfl, rfl, rfl, rfl, rfl, rfl, rfl⟩

theorem loaded_writeReg (s : State) (r : Reg8) (v : Byte) (cost : Nat) :
    Loaded s (spend (writeReg s r v) cost) r v cost := by
  refine ⟨?_, fun q hq => ?_, ?_, ?_, ?_, quiet_writeReg s r v cost⟩
  · rw [readReg_spend, readReg_writeReg_same]
  · rw [readReg_spend, otherRegs_writeReg s r v q hq]
  · rw [spend_cpu, writeReg_cpu_flags]
  · rw [spend_cpu, writeReg_cpu_sp]
  · rw [spend_cpu, writeReg_cpu_pc]

theorem loaded_loadReg (dst : Reg8) (o : Source) (cost : Nat) (s : State) :
    Loaded s (loadReg dst o cost s) dst (sourceByte s o) cost := loaded_writeReg s dst _ cost

theorem loaded_loadA (a : Address) (cost : Nat) (s : State) :
    Loaded s (loadA a cost s) .a (memRead s (addressOf s a)) cost := loaded_writeReg s .a _ cost

theorem encode_ldReg (dst r : Reg8) :
    encode (Instr.ldReg dst r) = [BitVec.ofNat 8 (0x40 + 8 * regCode dst + regCode r)] := by
  cases dst <;> cases r <;> rfl

theorem encode_ldFromHL (dst : Reg8) : encode (Instr.ldFromHL dst) = [BitVec.ofNat 8 (0x46 + 8 * regCode dst)] := by
  cases dst <;> rfl

theorem encode_ldImm (dst : Reg8) (n : Byte) :
    encode (Instr.ldImm dst n) = [BitVec.ofNat 8 (0x06 + 8 * regCode dst), n] := by
  cases dst <;> rfl

/-- Settles O3: each operand form is one register write. -/
theorem loadRegister : Obligations.LoadRegister := by
  unfold Obligations.LoadRegister
  intro dst o s
  have hx := exec_loadForm dst o s
  have hl := loaded_loadReg dst o (sourceCost o) s
  cases o with
  | reg r => exact ⟨encode_ldReg dst r, _, hx, hl⟩
  | atHL => exact ⟨encode_ldFromHL dst, _, hx, hl⟩
  | imm n => exact ⟨encode_ldImm dst n, _, hx, hl⟩

/-- Settles O5: each form is one write of A, at its address. -/
theorem loadAccumulator : Obligations.LoadAccumulator := by
  unfold Obligations.LoadAccumulator
  rintro s i bs a cost (⟨rfl, rfl, rfl, rfl⟩ | ⟨rfl, rfl, rfl, rfl⟩ | ⟨rfl, rfl, rfl⟩ | ⟨rfl, rfl, rfl, rfl⟩ |
    ⟨n, rfl, rfl, rfl, rfl⟩)
  · exact ⟨rfl, _, rfl, loaded_loadA (.pair .bc) 8 s⟩
  · exact ⟨rfl, _, rfl, loaded_loadA (.pair .de) 8 s⟩
  · exact ⟨rfl, _, rfl, loaded_loadA (.abs a) 16 s⟩
  · exact ⟨rfl, _, rfl, loaded_loadA .highC 8 s⟩
  · exact ⟨rfl, _, rfl, loaded_loadA (.high n) 12 s⟩

/-! Stores of one byte. -/

theorem stored_memWrite (s : State) (a : Word) (v : Byte) (cost : Nat) :
    Stored s (spend (memWrite s a v) cost) a v cost where
  cpu := (spend_cpu _ cost).trans (memWrite_cpu s a v)
  world := sameWorld_cpu _ _ _
  frame := storeFrame_cpu s _ a v _ _ rfl (storeFrame_memWrite s a v)
  cost := spend_cost _ cost

theorem stored_storeHL (o : Source) (cost : Nat) (s : State) :
    Stored s (storeHL o cost s) (readPair s .hl) (sourceByte s o) cost := stored_memWrite s _ _ cost

theorem stored_storeA (a : Address) (cost : Nat) (s : State) :
    Stored s (storeA a cost s) (addressOf s a) s.cpu.a cost := stored_memWrite s _ _ cost

theorem encode_ldToHL (r : Reg8) : encode (Instr.ldToHL r) = [BitVec.ofNat 8 (0x70 + regCode r)] := by
  cases r <;> rfl

/-- Settles O4: both forms are one write at HL. -/
theorem storeAtHL : Obligations.StoreAtHL := by
  unfold Obligations.StoreAtHL
  exact ⟨fun r s => ⟨encode_ldToHL r, _, exec_ldToHL r s, stored_storeHL (.reg r) 8 s⟩,
    fun n s => ⟨rfl, _, rfl, stored_storeHL (.imm n) 12 s⟩⟩

/-- Settles O6: each form is one write of A, at its address. -/
theorem storeAccumulator : Obligations.StoreAccumulator := by
  unfold Obligations.StoreAccumulator
  rintro s i bs a cost (⟨rfl, rfl, rfl, rfl⟩ | ⟨rfl, rfl, rfl, rfl⟩ | ⟨rfl, rfl, rfl⟩ | ⟨rfl, rfl, rfl, rfl⟩ |
    ⟨n, rfl, rfl, rfl, rfl⟩)
  · exact ⟨rfl, _, rfl, stored_storeA (.pair .bc) 8 s⟩
  · exact ⟨rfl, _, rfl, stored_storeA (.pair .de) 8 s⟩
  · exact ⟨rfl, _, rfl, stored_storeA (.abs a) 16 s⟩
  · exact ⟨rfl, _, rfl, stored_storeA .highC 8 s⟩
  · exact ⟨rfl, _, rfl, stored_storeA (.high n) 12 s⟩

/-! The forms that step HL. -/

/-- Writing HL leaves the registers but H and L. -/
theorem otherRegs_writePair_hl (s : State) (v : Word) : OtherRegs s (writePair s .hl v) [.h, .l] := by
  intro q hq
  cases q
  case h | l => simp at hq
  all_goals rfl

theorem sameHidden_writePair (s : State) (p : Pair) (v : Word) : SameHidden s (writePair s p v) := by
  constructor <;> simp

/-- The hidden bits do not depend on anything but the CPU. -/
theorem SameHidden.congr {s t u : State} (h : SameHidden s t) (hu : u.cpu = t.cpu) : SameHidden s u := by
  obtain ⟨ime, eiPending, halted, haltBug, stopped, doubleSpeed, fault, cycleCount⟩ := h
  constructor <;> rwa [hu]

section Step

variable (step : Word) (cost : Nat) (s : State)

theorem readPair_loadAStep : readPair (loadAStep step cost s) .hl = readPair s .hl + step :=
  readPair_writePair_same _ .hl _

theorem otherRegs_loadAStep : OtherRegs s (loadAStep step cost s) [.a, .h, .l] := by
  intro q hq
  obtain ⟨ha, hhl⟩ := List.ne_and_not_mem_of_not_mem_cons hq
  calc readReg (loadAStep step cost s) q
      = readReg (writePair (writeReg s .a (readAtHL s)) .hl (readPair s .hl + step)) q := readReg_spend _ cost q
    _ = readReg (writeReg s .a (readAtHL s)) q := otherRegs_writePair_hl _ _ q hhl
    _ = readReg s q := readReg_writeReg_other s .a q _ ha

theorem quiet_loadAStep : Quiet s (loadAStep step cost s) cost :=
  quiet_cpu s _ cost ⟨rfl, rfl, rfl, rfl, rfl, rfl, rfl, rfl⟩

/-- The store itself leaves the CPU, so only the step of HL shows there. -/
theorem storeAStep_cpu : (storeAStep step cost s).cpu = (writePair s .hl (readPair s .hl + step)).cpu := by
  simp only [storeAStep, spend_cpu, writePair, writeAtHL, memWrite_cpu]

theorem sameWorld_storeAStep : SameWorld (memWrite s (readPair s .hl) s.cpu.a) (storeAStep step cost s) :=
  sameWorld_cpu _ _ _

theorem storeFrame_storeAStep : StoreFrame s (storeAStep step cost s) (readPair s .hl) s.cpu.a :=
  storeFrame_cpu s _ _ _ _ _ rfl (storeFrame_memWrite s _ _)

theorem readPair_storeAStep : readPair (storeAStep step cost s) .hl = readPair s .hl + step :=
  readPair_writePair_same _ .hl _

theorem otherRegs_storeAStep : OtherRegs s (storeAStep step cost s) [.h, .l] :=
  fun q hq => (readReg_congr (storeAStep_cpu step cost s) q).trans (otherRegs_writePair_hl s _ q hq)

theorem sameHidden_storeAStep : SameHidden s (storeAStep step cost s) :=
  (sameHidden_writePair s .hl _).congr (storeAStep_cpu step cost s)

theorem storeAStep_cpu_flags : (storeAStep step cost s).cpu.flags = s.cpu.flags := by
  rw [storeAStep_cpu, writePair_cpu_flags]

theorem storeAStep_cpu_sp : (storeAStep step cost s).cpu.sp = s.cpu.sp := by
  rw [storeAStep_cpu]
  rfl

theorem storeAStep_cpu_pc : (storeAStep step cost s).cpu.pc = s.cpu.pc := by
  rw [storeAStep_cpu, writePair_cpu_pc]

end Step

/-- What HL moves by, modulo 2^16: one up or one down (R315-R318). -/
def hlStep (up : Bool) : Word := if up then 1 else -1

theorem add_hlStep (v : Word) (up : Bool) : v + hlStep up = if up then v + 1 else v - 1 := by
  cases up with
  | true => rfl
  | false => exact (BitVec.sub_eq_add_neg v 1).symm

theorem exec_ldAAtHLStep (up : Bool) (s : State) :
    exec (if up then .ldAAtHLInc else .ldAAtHLDec) s = .next (loadAStep (hlStep up) 8 s) := by
  cases up <;> rfl

theorem exec_ldAtHLStepA (up : Bool) (s : State) :
    exec (if up then .ldAtHLIncA else .ldAtHLDecA) s = .next (storeAStep (hlStep up) 8 s) := by
  cases up <;> rfl

theorem encode_ldAAtHLStep (up : Bool) :
    encode (if up then .ldAAtHLInc else .ldAAtHLDec) = [if up then 0x2A else 0x3A] := by
  cases up <;> rfl

theorem encode_ldAtHLStepA (up : Bool) :
    encode (if up then .ldAtHLIncA else .ldAtHLDecA) = [if up then 0x22 else 0x32] := by
  cases up <;> rfl

/-- Settles O7: a load of A or a store at HL, then a write of HL. -/
theorem accumulatorStep : Obligations.AccumulatorStep := by
  unfold Obligations.AccumulatorStep
  intro s up hl hl'
  have hmove : hl + hlStep up = hl' := add_hlStep hl up
  constructor
  · exact ⟨encode_ldAAtHLStep up, _, exec_ldAAtHLStep up s, rfl, (readPair_loadAStep _ 8 s).trans hmove,
      otherRegs_loadAStep _ 8 s, rfl, rfl, rfl, quiet_loadAStep _ 8 s⟩
  · exact ⟨encode_ldAtHLStepA up, _, exec_ldAtHLStepA up s, sameWorld_storeAStep _ 8 s, storeFrame_storeAStep _ 8 s,
      rfl, (readPair_storeAStep _ 8 s).trans hmove, otherRegs_storeAStep _ 8 s, sameHidden_storeAStep _ 8 s,
      storeAStep_cpu_flags _ 8 s, storeAStep_cpu_sp _ 8 s, storeAStep_cpu_pc _ 8 s⟩

end Sys2Proof.Machine
end

