-- ==== Sys2Proof/Proofs/TwoByteStores.lean ====
section
/-! Two bytes stored one after the other (O9, O11): the first store of a byte of memory leaves the address decode as it
was, so the frame of two bytes is made of two frames of one. -/

namespace Sys2Proof.Machine

/-- Every address stands for the same byte, and the same addresses are locked out. -/
structure SameDecode (s t : State) : Prop where
  cell : ∀ a, cellOf t a = cellOf s a
  locked : ∀ a, lockedOut t a = lockedOut s a

theorem sameDecode_poke (s : State) (r : Region) (i : Nat) (v : Byte) : SameDecode s (poke s r i v) :=
  ⟨fun _ => rfl, fun _ => rfl⟩

/-- A byte of memory stored at an unlocked address is a byte poked. -/
theorem memWrite_cell {s : State} {a : Word} {c : Region × Nat} (v : Byte) (hc : cellOf s a = some c)
    (hl : lockedOut s a = false) : memWrite s a v = poke s c.1 c.2 v :=
  (memWrite_of_unlocked v hl).trans (targetWrite_cell v hc)

theorem sameDecode_memWrite {s : State} {a : Word} {c : Region × Nat} (v : Byte) (hc : cellOf s a = some c)
    (hl : lockedOut s a = false) : SameDecode s (memWrite s a v) := by
  rw [memWrite_cell v hc hl]
  exact sameDecode_poke s c.1 c.2 v

/-- Two stores, of which the first leaves the decode, have the frame of two bytes. -/
theorem storeFrame2_of_storeFrame {s u t : State} {a1 a2 : Word} {v1 v2 : Byte}
    (hd : ∀ c, cellOf s a1 = some c → lockedOut s a1 = false → SameDecode s u)
    (h1 : StoreFrame s u a1 v1) (h2 : StoreFrame u t a2 v2) : StoreFrame2 s t a1 v1 a2 v2 := by
  intro c1 c2 hc1 hc2 hne hl1 hl2
  have hdec := hd c1 hc1 hl1
  obtain ⟨hread1, hother1⟩ := h1 c1 hc1 hl1
  obtain ⟨hread2, hother2⟩ := h2 c2 ((hdec.cell a2).trans hc2) ((hdec.locked a2).trans hl2)
  have hkeep : ∀ b, cellOf s b ≠ some c2 → memRead t b = memRead u b := fun b hb =>
    hother2 b (by rwa [hdec.cell b])
  refine ⟨(hkeep a1 ?_).trans hread1, hread2, fun b hb1 hb2 => (hkeep b hb2).trans (hother1 b hb1)⟩
  rw [hc1]
  exact fun h => hne (Option.some.inj h)

/-- A later move of the CPU keeps the frame of two stores. -/
theorem storeFrame2_cpu (s t : State) (a1 a2 : Word) (v1 v2 : Byte) (c : Cpu) (k : Nat)
    (hd : c.doubleSpeed = t.cpu.doubleSpeed) (h : StoreFrame2 s t a1 v1 a2 v2) :
    StoreFrame2 s { t with cpu := c, cost := k } a1 v1 a2 v2 := by
  intro c1 c2 hc1 hc2 hne hl1 hl2
  obtain ⟨h1, h2, h3⟩ := h c1 c2 hc1 hc2 hne hl1 hl2
  have hr := sameReads_cpu t c k hd
  exact ⟨(hr a1).trans h1, (hr a2).trans h2, fun b hb1 hb2 => (hr b).trans (h3 b hb1 hb2)⟩

theorem storeFrame2_memWrite (s : State) (a1 a2 : Word) (v1 v2 : Byte) :
    StoreFrame2 s (memWrite (memWrite s a1 v1) a2 v2) a1 v1 a2 v2 :=
  storeFrame2_of_storeFrame (fun _ hc hl => sameDecode_memWrite v1 hc hl) (storeFrame_memWrite s a1 v1)
    (storeFrame_memWrite _ a2 v2)

/-! Pushes. -/

/-- Moving SP leaves every read. -/
theorem sameReads_setSp (s : State) (v : Word) : SameReads s (setSp s v) := sameReads_cpu s _ s.cost rfl

/-- A push first moves SP, on which no address depends. -/
theorem storeFrame_pushByte (s : State) (v : Byte) : StoreFrame s (pushByte s v) (s.cpu.sp - 1) v := by
  intro c hc hl
  obtain ⟨hread, hother⟩ := storeFrame_memWrite (setSp s (s.cpu.sp - 1)) (s.cpu.sp - 1) v c hc hl
  exact ⟨hread, fun b hb => (hother b hb).trans (sameReads_setSp s _ b)⟩

theorem sameDecode_pushByte {s : State} {c : Region × Nat} (v : Byte) (hc : cellOf s (s.cpu.sp - 1) = some c)
    (hl : lockedOut s (s.cpu.sp - 1) = false) : SameDecode s (pushByte s v) :=
  have h : SameDecode (setSp s (s.cpu.sp - 1)) (pushByte s v) := sameDecode_memWrite v hc hl
  ⟨h.cell, h.locked⟩

/-- The high byte at SP-1, the low byte at SP-2 (R9, R104). -/
theorem storeFrame2_push16 (s : State) (v : Word) :
    StoreFrame2 s (push16 s v) (s.cpu.sp - 1) (hiByte v) (s.cpu.sp - 2) (loByte v) := by
  have hsp : (pushByte s (hiByte v)).cpu.sp - 1 = s.cpu.sp - 2 := by
    rw [pushByte_cpu]
    bv_omega
  have hlo := storeFrame_pushByte (pushByte s (hiByte v)) (loByte v)
  rw [hsp] at hlo
  exact storeFrame2_of_storeFrame (fun _ hc hl => sameDecode_pushByte _ hc hl) (storeFrame_pushByte s (hiByte v)) hlo

/-- A word pushed, then a jump. -/
theorem called_setPc_push16 (s : State) (v target : Word) (cost : Nat) :
    Called s (spend (setPc (push16 s v) target) cost) v target cost where
  cpu := by rw [spend_cpu, setPc, push16_cpu]
  world := sameWorld_cpu _ _ _
  frame := storeFrame2_cpu s _ _ _ _ _ _ _ rfl (storeFrame2_push16 s v)
  cost := spend_cost _ cost

end Sys2Proof.Machine
end

