-- ==== Sys2Proof/Proofs/Loads16.lean ====
section
/-! The 16-bit loads and the stack (O8-O12, R330-R338): one pair is written and the rest is left, or two bytes are
stored and the rest of memory is left. -/

namespace Sys2Proof.Machine

/-! One pair written. -/

/-- A write to one pair leaves the others. -/
theorem readPair_writePair_other (s : State) (p q : Pair) (v : Word) (h : q ≠ p) :
    readPair (writePair s p v) q = readPair s q := by
  cases p <;> cases q
  case bc.bc | de.de | hl.hl | sp.sp => exact absurd rfl h
  all_goals rfl

theorem readPair_spend (s : State) (n : Nat) (p : Pair) : readPair (spend s n) p = readPair s p := by
  cases p <;> rfl

/-- A is in no pair of table rp (R203). -/
theorem writePair_cpu_a (s : State) (p : Pair) (v : Word) : (writePair s p v).cpu.a = s.cpu.a := by
  cases p <;> rfl

theorem quiet_writePair (s : State) (p : Pair) (v : Word) (cost : Nat) :
    Quiet s (spend (writePair s p v) cost) cost := by
  cases p <;> exact quiet_cpu s _ cost ⟨rfl, rfl, rfl, rfl, rfl, rfl, rfl, rfl⟩

/-- SP is none of the 8-bit registers. -/
theorem otherRegs_setSp (s : State) (v : Word) (cost : Nat) : OtherRegs s (spend (setSp s v) cost) [] := fun q _ =>
  (readReg_spend _ cost q).trans (readReg_setSp s v q)

theorem encode_ldPairImm (p : Pair) (v : Word) :
    encode (Instr.ldPairImm p v) = [BitVec.ofNat 8 (0x01 + 16 * pairCode p), loByte v, hiByte v] := by
  cases p <;> rfl

/-- Settles O8: each form is one write of a pair, SP among them. -/
theorem loadPairSpec : Obligations.LoadPair := by
  unfold Obligations.LoadPair
  intro s
  constructor
  · intro p v
    refine ⟨encode_ldPairImm p v, _, exec_ldPairImm p v s, ?_, fun q hq => ?_, writePair_cpu_a s p v,
      writePair_cpu_flags s p v, writePair_cpu_pc s p v, quiet_writePair s p v 12⟩
    · exact (readPair_spend _ 12 p).trans (readPair_writePair_same s p v)
    · exact (readPair_spend _ 12 q).trans (readPair_writePair_other s p q v hq)
  · exact ⟨rfl, _, rfl, rfl, otherRegs_setSp s _ 8, rfl, rfl, quiet_writePair s .sp _ 8⟩

/-- Settles O9: two stores, the low byte first. -/
theorem storeStackPointer : Obligations.StoreStackPointer := by
  unfold Obligations.StoreStackPointer
  intro s a
  refine ⟨rfl, _, rfl, write16_cpu s a s.cpu.sp, sameWorld_cpu _ _ _, ?_, rfl⟩
  exact storeFrame2_cpu s _ _ _ _ _ _ _ rfl (storeFrame2_memWrite s a (a + 1) _ _)

/-! SP plus a signed offset. -/

theorem addOffset_toInt (sp : Word) (e : Byte) : (addOffset sp e).1.toInt = (sp.toInt + e.toInt).bmod 65536 := by
  have he : (sext16 e).toInt = e.toInt := BitVec.toInt_signExtend_of_le (by decide)
  rw [← he]
  exact BitVec.toInt_add sp (sext16 e)

theorem addOffset_h (sp : Word) (e : Byte) : (addOffset sp e).2.h = true ↔ 15 < sp.toNat % 16 + e.toNat % 16 :=
  decide_eq_true_iff

theorem addOffset_c (sp : Word) (e : Byte) : (addOffset sp e).2.c = true ↔ 255 < sp.toNat % 256 + e.toNat :=
  decide_eq_true_iff

theorem otherRegs_loadHLSp (e : Byte) (cost : Nat) (s : State) : OtherRegs s (loadHLSp e cost s) [.h, .l] := by
  intro q hq
  rw [loadHLSp, readReg_spend, readReg_setFlags, otherRegs_writePair_hl s _ q hq]

theorem readPair_loadHLSp (e : Byte) (cost : Nat) (s : State) :
    readPair (loadHLSp e cost s) .hl = (addOffset s.cpu.sp e).1 := readPair_writePair_same s .hl _

theorem quiet_loadHLSp (e : Byte) (cost : Nat) (s : State) : Quiet s (loadHLSp e cost s) cost :=
  quiet_cpu s _ cost ⟨rfl, rfl, rfl, rfl, rfl, rfl, rfl, rfl⟩

/-- Settles O10: HL gets the offset sum and the flags get its carries. -/
theorem loadHLOffset : Obligations.LoadHLOffset := by
  unfold Obligations.LoadHLOffset
  intro s e
  refine ⟨rfl, _, rfl, ?_, rfl, rfl, addOffset_h _ e, addOffset_c _ e, otherRegs_loadHLSp e 12 s, rfl, rfl,
    quiet_loadHLSp e 12 s⟩
  rw [readPair_loadHLSp, addOffset_toInt]

/-! PUSH. -/

theorem encode_push (p : StackPair) : encode (Instr.push p) = [BitVec.ofNat 8 (0xC5 + 16 * stackCode p)] := by
  cases p <;> rfl

/-- The low byte of AF is F, whose bits 3:0 are zero (R32). -/
theorem loByte_readStackPair_af (s : State) : loByte (readStackPair s .af) &&& 0x0F = 0 := by
  rw [readStackPair, loByte_joinBytes, flagsByte_low]

theorem setPc_pc (s : State) : setPc s s.cpu.pc = s := rfl

/-- PUSH goes on at the pc it has. -/
theorem called_pushPair (p : StackPair) (cost : Nat) (s : State) :
    Called s (pushPair p cost s) (readStackPair s p) s.cpu.pc cost := by
  have hpc : (push16 s (readStackPair s p)).cpu.pc = s.cpu.pc := by rw [push16_cpu]
  have h := called_setPc_push16 s (readStackPair s p) (push16 s (readStackPair s p)).cpu.pc cost
  rwa [setPc_pc, hpc] at h

/-- Settles O11: a push of the pair. -/
theorem pushPairSpec : Obligations.PushPair := by
  unfold Obligations.PushPair
  intro s p
  exact ⟨encode_push p, fun h => h ▸ loByte_readStackPair_af s, _, exec_push p s, called_pushPair p 16 s⟩

/-! POP. -/

theorem encode_pop (p : StackPair) : encode (Instr.pop p) = [BitVec.ofNat 8 (0xC1 + 16 * stackCode p)] := by
  cases p <;> rfl

/-- A byte written to F and read back loses bits 3:0 (R32). -/
theorem flagsByte_flagsOfByte (v : Byte) : flagsByte (flagsOfByte v) = v &&& 0xF0 := by
  revert v
  decide

/-- What a popped word leaves in the pair: AF drops bits 3:0 (R338). -/
theorem readStackPair_writeStackPair_same (s : State) (p : StackPair) (v : Word) :
    readStackPair (writeStackPair s p v) p = if p = .af then v &&& 0xFFF0 else v := by
  cases p with
  | bc => exact readPair_writePair_same s .bc v
  | de => exact readPair_writePair_same s .de v
  | hl => exact readPair_writePair_same s .hl v
  | af =>
    calc joinBytes (hiByte v) (flagsByte (flagsOfByte (loByte v)))
        = joinBytes (hiByte v &&& 0xFF) (loByte v &&& 0xF0) := by
          rw [flagsByte_flagsOfByte, show (0xFF : Byte) = BitVec.allOnes 8 from rfl, BitVec.and_allOnes]
      _ = joinBytes (hiByte v) (loByte v) &&& joinBytes 0xFF 0xF0 := BitVec.and_append.symm
      _ = v &&& 0xFFF0 := by rw [joinBytes_hi_lo]; rfl

/-- A write to one stack pair leaves the others. -/
theorem readStackPair_writeStackPair_other (s : State) (p q : StackPair) (v : Word) (h : q ≠ p) :
    readStackPair (writeStackPair s p v) q = readStackPair s q := by
  cases p <;> cases q
  case bc.bc | de.de | hl.hl | af.af => exact absurd rfl h
  all_goals rfl

theorem readStackPair_popSp (s : State) (p : StackPair) : readStackPair (popSp s) p = readStackPair s p := by
  cases p <;> rfl

theorem readStackPair_spend (s : State) (n : Nat) (p : StackPair) :
    readStackPair (spend s n) p = readStackPair s p := by
  cases p <;> rfl

/-- Only AF has the flags. -/
theorem writeStackPair_cpu_flags (s : State) (p : StackPair) (v : Word) (h : p ≠ .af) :
    (writeStackPair s p v).cpu.flags = s.cpu.flags := by
  cases p with
  | af => exact absurd rfl h
  | _ => rfl

theorem quiet_popPair (p : StackPair) (cost : Nat) (s : State) : Quiet s (popPair p cost s) cost := by
  cases p <;> exact quiet_cpu s _ cost ⟨rfl, rfl, rfl, rfl, rfl, rfl, rfl, rfl⟩

/-- Settles O12: the word at SP is written to the pair, and SP moves up. -/
theorem popPairSpec : Obligations.PopPair := by
  unfold Obligations.PopPair
  intro s p v
  refine ⟨encode_pop p, _, exec_pop p s, ?_, fun q hq => ?_, writeStackPair_cpu_flags (popSp s) p v,
    writeStackPair_cpu_sp (popSp s) p v, writeStackPair_cpu_pc (popSp s) p v, quiet_popPair p 12 s⟩
  · exact (readStackPair_spend _ 12 p).trans (readStackPair_writeStackPair_same (popSp s) p v)
  · rw [popPair, readStackPair_spend, readStackPair_writeStackPair_other _ p q _ hq, readStackPair_popSp]

end Sys2Proof.Machine
end

