-- ==== Sys2Proof/Proofs/Alu8.lean ====
section
/-! 8-bit arithmetic and logic (O13-O19, R345-R381). An instruction writes A, or the byte of a place, and the flags, and
leaves the rest (`Kept`, `PlaceGets`); what it writes is a value and flags computed in Machine/Flags.lean, read here as
numbers. -/

namespace Sys2Proof.Machine

/-! What is written, and the frame. -/

/-- The frame of an instruction that writes the named registers and the flags, at a cost. -/
def Kept (s t : State) (written : List Reg8) (cost : Nat) : Prop :=
  OtherRegs s t written ∧ t.cpu.sp = s.cpu.sp ∧ t.cpu.pc = s.cpu.pc ∧ Quiet s t cost

theorem kept_setFlags (s : State) (f : Flags) (cost : Nat) : Kept s (spend (setFlags s f) cost) [] cost := by
  refine ⟨fun q _ => ?_, rfl, rfl, quiet_cpu s _ cost ⟨rfl, rfl, rfl, rfl, rfl, rfl, rfl, rfl⟩⟩
  rw [readReg_spend, readReg_setFlags]

theorem kept_writeA_setFlags (s : State) (r : Byte × Flags) (cost : Nat) :
    Kept s (spend (setFlags (writeReg s .a r.1) r.2) cost) [.a] cost := by
  refine ⟨fun q hq => ?_, rfl, rfl, quiet_cpu s _ cost ⟨rfl, rfl, rfl, rfl, rfl, rfl, rfl, rfl⟩⟩
  rw [readReg_spend, readReg_setFlags, otherRegs_writeReg s .a r.1 q hq]

theorem kept_aluA (op : AluOp) (o : Source) (cost : Nat) (s : State) : Kept s (aluA op o cost s) [.a] cost :=
  kept_writeA_setFlags s _ cost

theorem aluA_cpu_a (op : AluOp) (o : Source) (cost : Nat) (s : State) :
    (aluA op o cost s).cpu.a = (aluResult op s.cpu.a (sourceByte s o) s.cpu.flags.c).1 := rfl

theorem aluA_cpu_flags (op : AluOp) (o : Source) (cost : Nat) (s : State) :
    (aluA op o cost s).cpu.flags = (aluResult op s.cpu.a (sourceByte s o) s.cpu.flags.c).2 := rfl

theorem encode_aluForm (op : AluOp) (o : Source) : encode (aluForm op o) = aluBytes op o := by
  cases o with
  | reg r => cases op <;> cases r <;> rfl
  | atHL => cases op <;> rfl
  | imm n => cases op <;> rfl

/-! ADD and ADC. -/

/-- A byte is zero when its number is. -/
theorem decide_eq_zero_iff (v : Byte) : decide (v = 0) = true ↔ v.toNat = 0 :=
  decide_eq_true_iff.trans BitVec.toNat_eq

theorem add8_toNat (a b : Byte) (c : Bool) : (add8 a b c).1.toNat = (a.toNat + b.toNat + bitNat c) % 256 :=
  BitVec.toNat_ofNat _ 8

theorem add8_z (a b : Byte) (c : Bool) :
    (add8 a b c).2.z = true ↔ (a.toNat + b.toNat + bitNat c) % 256 = 0 := by
  rw [← add8_toNat]
  exact decide_eq_zero_iff _

theorem add8_n (a b : Byte) (c : Bool) : (add8 a b c).2.n = false := rfl

theorem add8_h (a b : Byte) (c : Bool) :
    (add8 a b c).2.h = true ↔ 15 < a.toNat % 16 + b.toNat % 16 + bitNat c := decide_eq_true_iff

theorem add8_c (a b : Byte) (c : Bool) : (add8 a b c).2.c = true ↔ 255 < a.toNat + b.toNat + bitNat c :=
  decide_eq_true_iff

/-- ADC adds the carry, ADD does not (R350, R353). -/
theorem aluResult_add (useCarry : Bool) (a v : Byte) (c : Bool) :
    aluResult (if useCarry then .adc else .add) a v c = add8 a v (useCarry && c) := by
  cases useCarry <;> rfl

/-- Settles O13: the result and flags are those of the exact sum, whichever form the operand has. -/
theorem addWithCarry : Obligations.AddWithCarry := by
  unfold Obligations.AddWithCarry
  intro s useCarry o op c a v
  refine ⟨encode_aluForm op o, _, exec_aluForm op o s, ?_⟩
  rw [aluA_cpu_a, aluA_cpu_flags, aluResult_add]
  exact ⟨add8_toNat _ _ _, add8_z _ _ _, rfl, add8_h _ _ _, add8_c _ _ _, kept_aluA op o _ s⟩

/-! SUB, SBC and CP. -/

/-- The difference modulo 256; 512 keeps it from going below 0. -/
theorem sub8_toNat (a b : Byte) (c : Bool) : (sub8 a b c).1.toNat = (a.toNat + 512 - b.toNat - bitNat c) % 256 := by
  have hc : bitNat c ≤ 1 := by cases c <;> decide
  have hb := b.isLt
  rw [sub8, BitVec.toNat_ofInt]
  omega

theorem sub8_z (a b : Byte) (c : Bool) :
    (sub8 a b c).2.z = true ↔ (a.toNat + 512 - b.toNat - bitNat c) % 256 = 0 := by
  rw [← sub8_toNat]
  exact decide_eq_zero_iff _

theorem sub8_h (a b : Byte) (c : Bool) : (sub8 a b c).2.h = true ↔ a.toNat % 16 < b.toNat % 16 + bitNat c :=
  decide_eq_true_iff

theorem sub8_c (a b : Byte) (c : Bool) : (sub8 a b c).2.c = true ↔ a.toNat < b.toNat + bitNat c :=
  decide_eq_true_iff

/-- The three operations that subtract: SBC alone takes the carry, and CP keeps A (R356, R359, R371). -/
theorem aluResult_sub {op : AluOp} (h : op = .sub ∨ op = .sbc ∨ op = .cp) (a v : Byte) (c : Bool) :
    aluResult op a v c =
      (if op = .cp then a else (sub8 a v (decide (op = .sbc) && c)).1, (sub8 a v (decide (op = .sbc) && c)).2) := by
  rcases h with rfl | rfl | rfl <;> rfl

/-- Settles O14: the result and flags are those of the subtraction with its borrow. -/
theorem subtractCompare : Obligations.SubtractCompare := by
  unfold Obligations.SubtractCompare
  intro s op o hop c a v
  refine ⟨encode_aluForm op o, _, exec_aluForm op o s, ?_⟩
  rw [aluA_cpu_a, aluA_cpu_flags, aluResult_sub hop]
  refine ⟨?_, sub8_z _ _ _, rfl, sub8_h _ _ _, sub8_c _ _ _, kept_aluA op o _ s⟩
  rw [apply_ite BitVec.toNat, sub8_toNat]

/-! AND, XOR and OR. -/

theorem logicFlags_z (res : Byte) (h : Bool) : (logicFlags res h).z = true ↔ res = 0 := decide_eq_true_iff

/-- Settles O15: each operation is its bit's, and H tells AND. -/
theorem logicOperations : Obligations.LogicOperations := by
  unfold Obligations.LogicOperations
  intro s op o hop
  have hkept := kept_aluA op o (sourceCost o) s
  refine ⟨encode_aluForm op o, _, exec_aluForm op o s, ?_⟩
  rcases hop with rfl | rfl | rfl
  · exact ⟨fun _ _ => BitVec.getLsbD_and, logicFlags_z _ _, rfl, rfl, rfl, hkept⟩
  · exact ⟨fun _ _ => BitVec.getLsbD_xor, logicFlags_z _ _, rfl, rfl, rfl, hkept⟩
  · exact ⟨fun _ _ => BitVec.getLsbD_or, logicFlags_z _ _, rfl, rfl, rfl, hkept⟩

/-! INC and DEC. -/

theorem sameHidden_setFlags (s : State) (f : Flags) : SameHidden s (setFlags s f) := by
  constructor <;> rfl

/-- A byte written to a place, then the flags. -/
theorem placeGets_setFlags (s : State) (p : Place) (v : Byte) (f : Flags) (cost : Nat) :
    PlaceGets s (spend (setFlags (placeWrite s p v) f) cost) p v cost := by
  cases p with
  | reg r =>
    have hquiet : Quiet s (spend (setFlags (writeReg s r v) f) cost) cost := by
      cases r <;> exact quiet_cpu s _ cost ⟨rfl, rfl, rfl, rfl, rfl, rfl, rfl, rfl⟩
    refine ⟨writeReg_cpu_sp s r v, writeReg_cpu_pc s r v, hquiet.hidden, ?_, fun q hq => ?_, hquiet.world,
      hquiet.reads, hquiet.cost⟩
    · rw [readReg_spend, placeWrite, readReg_setFlags, readReg_writeReg_same]
    · rw [readReg_spend, placeWrite, readReg_setFlags, otherRegs_writeReg s r v q hq]
  | atHL =>
    have hcpu : (spend (setFlags (writeAtHL s v) f) cost).cpu = (setFlags s f).cpu := by
      rw [spend_cpu, setFlags, writeAtHL, memWrite_cpu]
      rfl
    refine ⟨(congrArg Cpu.sp hcpu).trans (setFlags_cpu_sp s f), (congrArg Cpu.pc hcpu).trans (setFlags_cpu_pc s f),
      (sameHidden_setFlags s f).congr hcpu, fun q _ => ?_, sameWorld_cpu _ _ _,
      storeFrame_cpu s _ _ v _ _ rfl (storeFrame_memWrite s _ v), rfl⟩
    exact (readReg_congr hcpu q).trans (readReg_setFlags s f q)

theorem incResult_toNat (v : Byte) (f : Flags) : (incResult v f).1.toNat = (v.toNat + 1) % 256 :=
  BitVec.toNat_add v 1

theorem decResult_toNat (v : Byte) (f : Flags) : (decResult v f).1.toNat = (v.toNat + 255) % 256 := by
  rw [decResult, BitVec.sub_eq_add_neg, BitVec.toNat_add]
  rfl

theorem encode_incForm (p : Place) : encode (incForm p) = [BitVec.ofNat 8 (0x04 + 8 * placeCode p)] := by
  cases p with
  | reg r => cases r <;> rfl
  | atHL => rfl

theorem encode_decForm (p : Place) : encode (decForm p) = [BitVec.ofNat 8 (0x05 + 8 * placeCode p)] := by
  cases p with
  | reg r => cases r <;> rfl
  | atHL => rfl

/-- Settles O16: both are one write of a place and the flags but C. -/
theorem incrementDecrement : Obligations.IncrementDecrement := by
  unfold Obligations.IncrementDecrement
  intro s p up v i
  cases up with
  | true =>
    exact ⟨encode_incForm p, _, (incResult v s.cpu.flags).1, exec_incForm p s, placeGets_setFlags s p _ _ _,
      incResult_toNat v _, decide_eq_true_iff, rfl, decide_eq_true_iff, rfl⟩
  | false =>
    exact ⟨encode_decForm p, _, (decResult v s.cpu.flags).1, exec_decForm p s, placeGets_setFlags s p _ _ _,
      decResult_toNat v _, decide_eq_true_iff, rfl, decide_eq_true_iff, rfl⟩

/-! DAA. -/

/-- Whether DAA adjusts the high digit (R378). -/
abbrev AdjustsHigh (a : Byte) (f : Flags) : Prop := f.c = true ∨ (f.n = false ∧ 0x99 < a.toNat)

/-- Whether DAA adjusts the low digit (R378). -/
abbrev AdjustsLow (a : Byte) (f : Flags) : Prop := f.h = true ∨ (f.n = false ∧ 9 < a.toNat % 16)

/-- After an addition each adjustment adds. -/
theorem daaResult_toNat_of_add (a : Byte) {f : Flags} (hn : f.n = false) :
    (daaResult a f).1.toNat
      = (a.toNat + (if AdjustsHigh a f then 0x60 else 0) + (if AdjustsLow a f then 0x06 else 0)) % 256 := by
  have h : (daaResult a f).1 = a + (if AdjustsHigh a f then 0x60 else 0) + (if AdjustsLow a f then 0x06 else 0) := by
    simp [daaResult, daaAdd, AdjustsHigh, AdjustsLow, hn]
  rw [h]
  split <;> split <;> bv_omega

/-- After a subtraction each adjustment subtracts, and H and C alone decide. -/
theorem daaResult_toNat_of_sub (a : Byte) {f : Flags} (hn : f.n = true) :
    (daaResult a f).1.toNat
      = (a.toNat + (if AdjustsHigh a f then 0xA0 else 0) + (if AdjustsLow a f then 0xFA else 0)) % 256 := by
  have h : (daaResult a f).1 = a - (if AdjustsHigh a f then 0x60 else 0) - (if AdjustsLow a f then 0x06 else 0) := by
    simp [daaResult, daaSub, AdjustsHigh, AdjustsLow, hn]
  rw [h]
  split <;> split <;> bv_omega

theorem daaResult_c (a : Byte) (f : Flags) : (daaResult a f).2.c = true ↔ AdjustsHigh a f := by
  cases hn : f.n with
  | true => simp [daaResult, daaSub, AdjustsHigh, hn]
  | false => simp [daaResult, daaAdd, AdjustsHigh, hn]

/-- The four cases of two adjustments x and y, of which the sum is z modulo 256. -/
theorem adjust_cases {hi lo : Prop} [Decidable hi] [Decidable lo] {r x y z : Nat} {a : Byte} (hz : (x + y) % 256 = z)
    (hr : r = (a.toNat + (if hi then x else 0) + (if lo then y else 0)) % 256) :
    (hi → lo → r = (a.toNat + z) % 256) ∧ (hi → ¬lo → r = (a.toNat + x) % 256)
      ∧ (¬hi → lo → r = (a.toNat + y) % 256) ∧ (¬hi → ¬lo → r = a.toNat) := by
  have ha := a.isLt
  refine ⟨fun h l => ?_, fun h l => ?_, fun h l => ?_, fun h l => ?_⟩ <;> simp only [h, l, if_true, if_false] at hr <;>
    omega

theorem kept_decimalAdjust (cost : Nat) (s : State) : Kept s (decimalAdjust cost s) [.a] cost :=
  kept_writeA_setFlags s _ cost

/-- Settles O17: N tells which way the two adjustments go. -/
theorem decimalAdjustSpec : Obligations.DecimalAdjust := by
  unfold Obligations.DecimalAdjust
  intro s a f hi lo
  exact ⟨rfl, _, rfl, fun hn => adjust_cases rfl (daaResult_toNat_of_add s.cpu.a hn),
    fun hn => adjust_cases rfl (daaResult_toNat_of_sub s.cpu.a hn), decide_eq_true_iff, rfl, rfl,
    daaResult_c s.cpu.a f, kept_decimalAdjust 4 s⟩

/-! ADD, then DAA. -/

theorem bitNat_false : bitNat false = 0 := rfl

section Decimal

variable {a b : Byte} {x y : Nat} (ha : a.toNat = x / 10 * 16 + x % 10) (hb : b.toNat = y / 10 * 16 + y % 10)

include ha hb

/-- The low digit is adjusted when the low digits have a ten. -/
theorem adjustsLow_add8 : AdjustsLow (add8 a b false).1 (add8 a b false).2 ↔ 10 ≤ x % 10 + y % 10 := by
  simp only [AdjustsLow, add8_h, add8_n, add8_toNat, bitNat_false, true_and]
  omega

variable (hx : x < 100) (hy : y < 100)

include hx hy

/-- The high digit is adjusted when the decimal sum has a hundred. -/
theorem adjustsHigh_add8 : AdjustsHigh (add8 a b false).1 (add8 a b false).2 ↔ 100 ≤ x + y := by
  simp only [AdjustsHigh, add8_c, add8_n, add8_toNat, bitNat_false, true_and]
  omega

theorem daaResult_add8_toNat :
    (daaResult (add8 a b false).1 (add8 a b false).2).1.toNat = (x + y) % 100 / 10 * 16 + (x + y) % 10 := by
  rw [daaResult_toNat_of_add _ (add8_n a b false)]
  simp only [adjustsHigh_add8 ha hb hx hy, adjustsLow_add8 ha hb, add8_toNat, bitNat_false]
  split <;> split <;> omega

end Decimal

/-- Settles O18: the two adjustments of DAA are the two decimal carries of the sum. -/
theorem decimalAddition : Obligations.DecimalAddition := by
  unfold Obligations.DecimalAddition
  intro s t u x y hx hy ha hb ht hu
  obtain rfl : aluA .add (.reg .b) 4 s = t := Host.Outcome.next.inj ht
  obtain rfl : decimalAdjust 4 (aluA .add (.reg .b) 4 s) = u := Host.Outcome.next.inj hu
  exact ⟨daaResult_add8_toNat ha hb hx hy, (daaResult_c _ _).trans (adjustsHigh_add8 ha hb hx hy)⟩

/-! CPL, SCF and CCF. -/

/-- Settles O19: one write of A and the flags, or of the flags. -/
theorem flagOperations : Obligations.FlagOperations := by
  unfold Obligations.FlagOperations
  intro s
  exact ⟨⟨rfl, rfl, rfl⟩, ⟨_, rfl, BitVec.toNat_not, rfl, kept_writeA_setFlags s (_, _) 4⟩,
    ⟨_, rfl, rfl, kept_setFlags s _ 4⟩, _, rfl, rfl, kept_setFlags s _ 4⟩

end Sys2Proof.Machine
end

