-- ==== Sys2Proof/Proofs/Alu16.lean ====
section
/-! 16-bit arithmetic (O20, R390-R393). An instruction writes one pair, SP among them, and at most the flags; the values
are those of `add16`, of a step by one, and of `addOffset`. -/

namespace Sys2Proof.Machine

/-! ADD HL, rr. -/

theorem add16_toNat (h v : Word) (f : Flags) : (add16 h v f).1.toNat = (h.toNat + v.toNat) % 65536 :=
  BitVec.toNat_ofNat _ 16

theorem add16_z (h v : Word) (f : Flags) : (add16 h v f).2.z = f.z := rfl

theorem add16_n (h v : Word) (f : Flags) : (add16 h v f).2.n = false := rfl

theorem add16_h (h v : Word) (f : Flags) :
    (add16 h v f).2.h = true ↔ 4095 < h.toNat % 4096 + v.toNat % 4096 := decide_eq_true_iff

theorem add16_c (h v : Word) (f : Flags) : (add16 h v f).2.c = true ↔ 65535 < h.toNat + v.toNat := decide_eq_true_iff

theorem readPair_addToHL_toNat (p : Pair) (cost : Nat) (s : State) :
    (readPair (addToHL p cost s) .hl).toNat = ((readPair s .hl).toNat + (readPair s p).toNat) % 65536 := by
  rw [← add16_toNat _ _ s.cpu.flags]
  exact congrArg BitVec.toNat (readPair_writePair_same s .hl _)

theorem kept_addToHL (p : Pair) (cost : Nat) (s : State) : Kept s (addToHL p cost s) [.h, .l] cost := by
  refine ⟨fun q hq => ?_, rfl, rfl, quiet_cpu s _ cost ⟨rfl, rfl, rfl, rfl, rfl, rfl, rfl, rfl⟩⟩
  rw [addToHL, readReg_spend, readReg_setFlags, otherRegs_writePair_hl s _ q hq]

theorem encode_addHL (p : Pair) : encode (Instr.addHL p) = [BitVec.ofNat 8 (0x09 + 16 * pairCode p)] := by
  cases p <;> rfl

/-! INC rr and DEC rr: the pair moves by `hlStep`, as HL does in the loads that step it. -/

theorem exec_incDecPair (up : Bool) (p : Pair) (s : State) :
    exec (if up then Instr.incPair p else Instr.decPair p) s = .next (stepPair p (hlStep up) 8 s) := by
  cases up with
  | true => exact exec_incPair p s
  | false => exact exec_decPair p s

theorem encode_incDecPair (up : Bool) (p : Pair) :
    encode (if up then Instr.incPair p else Instr.decPair p)
      = [BitVec.ofNat 8 ((if up then 0x03 else 0x0B) + 16 * pairCode p)] := by
  cases up <;> cases p <;> rfl

theorem add_hlStep_toNat (v : Word) (up : Bool) :
    (v + hlStep up).toNat = (if up then v.toNat + 1 else v.toNat + 65535) % 65536 := by
  cases up <;> exact BitVec.toNat_add v _

section StepPair

variable (p : Pair) (step : Word) (cost : Nat) (s : State)

theorem readPair_stepPair_same : readPair (stepPair p step cost s) p = readPair s p + step :=
  (readPair_spend _ cost p).trans (readPair_writePair_same s p _)

theorem readPair_stepPair_other (q : Pair) (hq : q ≠ p) : readPair (stepPair p step cost s) q = readPair s q :=
  (readPair_spend _ cost q).trans (readPair_writePair_other s p q _ hq)

theorem stepPair_cpu_a : (stepPair p step cost s).cpu.a = s.cpu.a := writePair_cpu_a s p _

theorem stepPair_cpu_flags : (stepPair p step cost s).cpu.flags = s.cpu.flags := writePair_cpu_flags s p _

theorem stepPair_cpu_pc : (stepPair p step cost s).cpu.pc = s.cpu.pc := writePair_cpu_pc s p _

theorem quiet_stepPair : Quiet s (stepPair p step cost s) cost := quiet_writePair s p _ cost

end StepPair

/-! ADD SP, e8: the sum and flags of `addOffset`. -/

theorem otherRegs_addToSp (e : Byte) (cost : Nat) (s : State) : OtherRegs s (addToSp e cost s) [] := by
  intro q _
  rw [addToSp, readReg_spend, readReg_setFlags, readReg_setSp]

theorem quiet_addToSp (e : Byte) (cost : Nat) (s : State) : Quiet s (addToSp e cost s) cost :=
  quiet_cpu s _ cost ⟨rfl, rfl, rfl, rfl, rfl, rfl, rfl, rfl⟩

/-- Settles O20: HL gets the exact sum modulo 2^16, a pair moves by one, and SP gets the offset sum, each with its
frame. -/
theorem wordArithmetic : Obligations.WordArithmetic := by
  unfold Obligations.WordArithmetic
  intro s p e hl v
  refine ⟨?_, fun up => ?_, ?_⟩
  · exact ⟨encode_addHL p, _, exec_addHL p s, readPair_addToHL_toNat p 8 s, add16_z _ _ _, add16_n _ _ _,
      add16_h _ _ _, add16_c _ _ _, kept_addToHL p 8 s⟩
  · refine ⟨encode_incDecPair up p, _, exec_incDecPair up p s, ?_, readPair_stepPair_other p _ 8 s,
      stepPair_cpu_a p _ 8 s, stepPair_cpu_flags p _ 8 s, stepPair_cpu_pc p _ 8 s, quiet_stepPair p _ 8 s⟩
    rw [readPair_stepPair_same, add_hlStep_toNat]
  · exact ⟨rfl, _, rfl, addOffset_toInt _ e, rfl, rfl, addOffset_h _ e, addOffset_c _ e, otherRegs_addToSp e 16 s, rfl,
      quiet_addToSp e 16 s⟩

end Sys2Proof.Machine
end

