-- ==== Sys2Proof/Proofs/Rotates.lean ====
section
/-! Rotates, shifts and bits (O21-O24, R400-R425). An instruction writes A or the byte of a place, the flags, or both;
what it writes is computed in Machine/Flags.lean, and read here as numbers for the rotates, bit by bit for RES and
SET. -/

namespace Sys2Proof.Machine

/-! Bytes joined from disjoint bits, as numbers. -/

/-- The rotated byte is an OR of two parts without a bit in common, so its number is the sum of theirs. -/
theorem toNat_or_of_lt {x y : Byte} {n k : Nat} (hx : x.toNat = 2 ^ n * k) (hy : y.toNat < 2 ^ n) :
    (x ||| y).toNat = x.toNat + y.toNat := by
  rw [BitVec.toNat_or, hx, Nat.two_pow_add_eq_or_of_lt hy]

theorem bitNat_le (c : Bool) : bitNat c ≤ 1 := by cases c <;> decide

theorem bitNat_eq_toNat (c : Bool) : bitNat c = c.toNat := by cases c <;> rfl

theorem bitNat_getLsbD (v : Byte) (k : Nat) : bitNat (v.getLsbD k) = v.toNat / 2 ^ k % 2 :=
  (bitNat_eq_toNat _).trans (Nat.toNat_testBit v.toNat k)

theorem bitNat_getLsbD_zero (v : Byte) : bitNat (v.getLsbD 0) = v.toNat % 2 := by
  have h := bitNat_getLsbD v 0
  omega

theorem bitNat_getLsbD_seven (v : Byte) : bitNat (v.getLsbD 7) = v.toNat / 128 := by
  have hv := v.isLt
  rw [bitNat_getLsbD]
  omega

theorem bitAt_zero_toNat (c : Bool) : (bitAt 0 c).toNat = bitNat c := by cases c <;> rfl

theorem bitAt_seven_toNat (c : Bool) : (bitAt 7 c).toNat = 128 * bitNat c := by cases c <;> rfl

theorem shiftLeft_one_toNat (v : Byte) : (v <<< 1).toNat = 2 * v.toNat % 256 := by
  rw [BitVec.toNat_shiftLeft, Nat.shiftLeft_eq, Nat.mul_comm]

theorem shiftRight_one_toNat (v : Byte) : (v >>> 1).toNat = v.toNat / 2 := BitVec.toNat_ushiftRight v 1

/-- A bit moved in on the right (R404, R408). -/
theorem shiftLeft_or_bit_toNat (v : Byte) (c : Bool) :
    ((v <<< 1) ||| bitAt 0 c).toNat = 2 * v.toNat % 256 + bitNat c := by
  have hc := bitNat_le c
  have hx : (v <<< 1).toNat = 2 ^ 1 * (v.toNat % 128) := by rw [shiftLeft_one_toNat]; omega
  have hy : (bitAt 0 c).toNat < 2 ^ 1 := by rw [bitAt_zero_toNat]; omega
  rw [toNat_or_of_lt hx hy, shiftLeft_one_toNat, bitAt_zero_toNat]

/-- A bit moved in on the left (R406, R410). -/
theorem shiftRight_or_bit_toNat (v : Byte) (c : Bool) :
    ((v >>> 1) ||| bitAt 7 c).toNat = v.toNat / 2 + 128 * bitNat c := by
  have hv := v.isLt
  have hy : (v >>> 1).toNat < 2 ^ 7 := by rw [shiftRight_one_toNat]; omega
  rw [BitVec.or_comm, toNat_or_of_lt (bitAt_seven_toNat c) hy, shiftRight_one_toNat, bitAt_seven_toNat, Nat.add_comm]

/-- The sign bit kept by SRA is the bit moved in on the left (R414). -/
theorem and_sign_eq_bitAt (v : Byte) : v &&& 0x80 = bitAt 7 (v.getLsbD 7) := BitVec.and_twoPow v 7

/-- The halves exchanged by SWAP (R416). -/
theorem swap_toNat (v : Byte) : (((v &&& 0x0F) <<< 4) ||| (v >>> 4)).toNat = 16 * (v.toNat % 16) + v.toNat / 16 := by
  have hv := v.isLt
  have hlow : (v &&& 0x0F).toNat = v.toNat % 16 := Nat.and_two_pow_sub_one_eq_mod v.toNat 4
  have hx : ((v &&& 0x0F) <<< 4).toNat = 2 ^ 4 * (v.toNat % 16) := by
    rw [BitVec.toNat_shiftLeft, Nat.shiftLeft_eq, hlow]
    omega
  have hy : (v >>> 4).toNat = v.toNat / 16 := Nat.shiftRight_eq_div_pow v.toNat 4
  have hsum := toNat_or_of_lt hx (y := v >>> 4) (by omega)
  omega

/-! Rotates, shifts and SWAP. -/

theorem rotResult_toNat (op : RotOp) (v : Byte) (c : Bool) :
    (rotResult op v c).1.toNat = rotNumber op v.toNat (bitNat c) := by
  cases op with
  | rlc => rw [rotResult, shiftLeft_or_bit_toNat, bitNat_getLsbD_seven, rotNumber]
  | rrc => rw [rotResult, shiftRight_or_bit_toNat, bitNat_getLsbD_zero, rotNumber]
  | rl => exact shiftLeft_or_bit_toNat v c
  | rr => exact shiftRight_or_bit_toNat v c
  | sla => exact shiftLeft_one_toNat v
  | sra => rw [rotResult, and_sign_eq_bitAt, shiftRight_or_bit_toNat, bitNat_getLsbD_seven, rotNumber]
  | swap => exact swap_toNat v
  | srl => exact shiftRight_one_toNat v

theorem bitNat_rotResult (op : RotOp) (v : Byte) (c : Bool) : bitNat (rotResult op v c).2 = rotOutBit op v.toNat := by
  cases op with
  | rlc | rl | sla => exact bitNat_getLsbD_seven v
  | rrc | rr | sra | srl => exact bitNat_getLsbD_zero v
  | swap => rfl

theorem kept_rotateA (op : RotOp) (cost : Nat) (s : State) : Kept s (rotateA op cost s) [.a] cost :=
  kept_writeA_setFlags s (_, _) cost

/-- Settles O21: one write of A and of flags in which only C can be set. -/
theorem rotateAccumulator : Obligations.RotateAccumulator := by
  unfold Obligations.RotateAccumulator
  intro s op i code h
  have hcode : encode i = [code] ∧ exec i s = .next (rotateA op 4 s) := by
    rcases h with ⟨rfl, rfl, rfl⟩ | ⟨rfl, rfl, rfl⟩ | ⟨rfl, rfl, rfl⟩ | ⟨rfl, rfl, rfl⟩ <;> exact ⟨rfl, rfl⟩
  obtain ⟨hencode, hexec⟩ := hcode
  exact ⟨hencode, _, hexec, rotResult_toNat op _ _, rfl, rfl, rfl, bitNat_rotResult op _ _, kept_rotateA op 4 s⟩

theorem encode_rotForm (op : RotOp) (p : Place) : encode (rotForm op p) = cbBytes 0 (rotCode op) p := by
  cases p with
  | reg r => cases op <;> cases r <;> rfl
  | atHL => cases op <;> rfl

/-- Every prefixed rotate and shift: one write of a place, and all the flags. -/
theorem rotForm_effect (s : State) (op : RotOp) (p : Place) :
    ∃ t w, exec (rotForm op p) s = .next t ∧ PlaceGets s t p w (placeCost p 8 16)
      ∧ w.toNat = rotNumber op (placeByte s p).toNat (bitNat s.cpu.flags.c)
      ∧ (t.cpu.flags.z = true ↔ w = 0) ∧ t.cpu.flags.n = false ∧ t.cpu.flags.h = false
      ∧ bitNat t.cpu.flags.c = rotOutBit op (placeByte s p).toNat :=
  ⟨_, _, exec_rotForm op p s, placeGets_setFlags s p _ _ _, rotResult_toNat op _ _, decide_eq_true_iff, rfl, rfl,
    bitNat_rotResult op _ _⟩

/-- Settles O22: the rotates are four of the eight operations of `rotForm_effect`. -/
theorem rotatePrefixed : Obligations.RotatePrefixed := by
  unfold Obligations.RotatePrefixed
  intro s op p _
  exact ⟨encode_rotForm op p, rotForm_effect s op p⟩

/-- Settles O23: the shifts and SWAP are the other four. -/
theorem shiftPrefixed : Obligations.ShiftPrefixed := by
  unfold Obligations.ShiftPrefixed
  intro s op p _
  exact ⟨encode_rotForm op p, rotForm_effect s op p⟩

/-! BIT, RES and SET. -/

theorem encode_bitForm (b : Fin 8) (p : Place) : encode (bitForm b p) = cbBytes 1 b p := by
  cases p with
  | reg r => revert b; apply forall_fin8 <;> cases r <;> rfl
  | atHL => revert b; apply forall_fin8 <;> rfl

theorem encode_resForm (b : Fin 8) (p : Place) : encode (resForm b p) = cbBytes 2 b p := by
  cases p with
  | reg r => revert b; apply forall_fin8 <;> cases r <;> rfl
  | atHL => revert b; apply forall_fin8 <;> rfl

theorem encode_setForm (b : Fin 8) (p : Place) : encode (setForm b p) = cbBytes 3 b p := by
  cases p with
  | reg r => revert b; apply forall_fin8 <;> cases r <;> rfl
  | atHL => revert b; apply forall_fin8 <;> rfl

/-- The mask of RES and SET has the one bit (R422, R424). -/
theorem mask_getLsbD (b : Fin 8) (k : Nat) : ((1 : Byte) <<< b.val).getLsbD k = decide (k = b.val) := by
  refine (BitVec.getLsbD_twoPow b.val k).trans ?_
  rw [decide_eq_true b.isLt, Bool.true_and]
  exact decide_eq_decide.mpr eq_comm

theorem resResult_getLsbD (v : Byte) (b : Fin 8) {k : Nat} (hk : k < 8) :
    (resResult v b).getLsbD k = if k = b.val then false else v.getLsbD k := by
  rw [resResult, BitVec.getLsbD_and, BitVec.getLsbD_not, mask_getLsbD]
  by_cases h : k = b.val <;> simp [h, hk]

theorem setResult_getLsbD (v : Byte) (b : Fin 8) (k : Nat) :
    (setResult v b).getLsbD k = if k = b.val then true else v.getLsbD k := by
  rw [setResult, BitVec.getLsbD_or, mask_getLsbD]
  by_cases h : k = b.val <;> simp [h]

theorem placeWrite_cpu_flags (s : State) (p : Place) (v : Byte) : (placeWrite s p v).cpu.flags = s.cpu.flags := by
  cases p with
  | reg r => exact writeReg_cpu_flags s r v
  | atHL => exact congrArg Cpu.flags (memWrite_cpu s _ v)

/-- A byte written to a place, and the flags left as they are. -/
theorem placeGets_placeWrite (s : State) (p : Place) (v : Byte) (cost : Nat) :
    PlaceGets s (spend (placeWrite s p v) cost) p v cost :=
  placeGets_setFlags s p v (placeWrite s p v).cpu.flags cost

/-- Settles O24: BIT writes three flags alone, RES and SET the byte of a place alone. -/
theorem bitOperations : Obligations.BitOperations := by
  unfold Obligations.BitOperations
  intro s b p v
  refine ⟨⟨encode_bitForm b p, _, exec_bitForm b p s, rfl, kept_setFlags s _ _⟩, fun set => ?_⟩
  cases set with
  | true =>
    exact ⟨encode_setForm b p, _, setResult v b, exec_setForm b p s, placeGets_placeWrite s p _ _,
      placeWrite_cpu_flags s p _, fun k _ => setResult_getLsbD v b k⟩
  | false =>
    exact ⟨encode_resForm b p, _, resResult v b, exec_resForm b p s, placeGets_placeWrite s p _ _,
      placeWrite_cpu_flags s p _, fun _ hk => resResult_getLsbD v b hk⟩

end Sys2Proof.Machine
end

