-- ==== Sys2Proof/Proofs/Control.lean ====
section
/-! Control transfer (O26-O28, R450-R462). Every form is one of three moves, a jump, a call or a return, and a
conditional form is that move where its condition holds and costs time alone where it does not. -/

namespace Sys2Proof.Machine

/-- A condition that fails costs time alone (R449). -/
theorem jumped_spend (s : State) (cost : Nat) : Jumped s (spend s cost) s.cpu.pc cost :=
  ⟨rfl, sameWorld_cpu s _ _, sameReads_cpu s _ _ rfl, spend_cost s cost⟩

/-- A conditional transfer does what its move does when taken, and goes on at the pc it has when not (R449). -/
theorem conditional_effect {s : State} {taken : State → State} {cost : Nat} (cc : Cond) (costNot : Nat)
    {Effect : State → Prop} (h : Effect (spend (taken s) cost)) :
    if condHolds cc s.cpu.flags then Effect (conditional cc taken cost costNot s)
    else Jumped s (conditional cc taken cost costNot s) s.cpu.pc costNot := by
  unfold conditional
  split
  · exact h
  · exact jumped_spend s costNot

/-! Jumps. -/

theorem jumped_setPc (s : State) (target : Word) (cost : Nat) : Jumped s (spend (setPc s target) cost) target cost :=
  ⟨rfl, sameWorld_cpu s _ _, sameReads_cpu s _ _ rfl, spend_cost _ cost⟩

theorem encode_jpIf (cc : Cond) (a : Word) :
    encode (Instr.jpIf cc a) = [BitVec.ofNat 8 (0xC2 + 8 * condCode cc), loByte a, hiByte a] := by
  cases cc <;> rfl

theorem encode_jrIf (cc : Cond) (e : Byte) :
    encode (Instr.jrIf cc e) = [BitVec.ofNat 8 (0x20 + 8 * condCode cc), e] := by
  cases cc <;> rfl

/-- Settles O26: each form is one write of pc, under a condition or none. -/
theorem jumps : Obligations.Jumps := by
  unfold Obligations.Jumps
  intro s a e cc rel
  refine ⟨⟨rfl, _, rfl, jumped_setPc s a 16⟩, ⟨encode_jpIf cc a, _, exec_jpIf cc a s, ?_⟩,
    ⟨rfl, _, rfl, jumped_setPc s _ 4⟩, ⟨rfl, _, rfl, jumped_setPc s rel 12⟩,
    encode_jrIf cc e, _, exec_jrIf cc e s, ?_⟩
  · exact conditional_effect (Effect := (Jumped s · a 16)) cc 12 (jumped_setPc s a 16)
  · exact conditional_effect (Effect := (Jumped s · rel 12)) cc 8 (jumped_setPc s rel 12)

/-! Calls. -/

/-- A call pushes the pc it has, the address of the next instruction (R455). -/
theorem called_callTo (s : State) (target : Word) (cost : Nat) :
    Called s (spend (callTo s target) cost) s.cpu.pc target cost := called_setPc_push16 s s.cpu.pc target cost

theorem encode_callIf (cc : Cond) (a : Word) :
    encode (Instr.callIf cc a) = [BitVec.ofNat 8 (0xC4 + 8 * condCode cc), loByte a, hiByte a] := by
  cases cc <;> rfl

theorem encode_rst (y : Fin 8) : encode (Instr.rst y) = [BitVec.ofNat 8 (0xC7 + 8 * y.val)] := by
  revert y; apply forall_fin8 <;> rfl

/-- Settles O27: each form is one call, under a condition or none. -/
theorem calls : Obligations.Calls := by
  unfold Obligations.Calls
  intro s a cc y
  refine ⟨⟨rfl, _, rfl, called_callTo s a 24⟩, ⟨encode_callIf cc a, _, exec_callIf cc a s, ?_⟩,
    encode_rst y, _, exec_rst y s, called_callTo s _ 16⟩
  exact conditional_effect (Effect := (Called s · s.cpu.pc a 24)) cc 12 (called_callTo s a 24)

/-! Returns. -/

/-- The effect of a return (R457): the word at SP is the new pc, SP moves up by two, and nothing else differs. -/
def Returned (s t : State) (cost : Nat) : Prop :=
  t.cpu = { s.cpu with sp := s.cpu.sp + 2, pc := joinBytes (memRead s (s.cpu.sp + 1)) (memRead s s.cpu.sp) }
    ∧ Quiet s t cost

/-- A pop reads the stack and moves the CPU alone (R9). -/
theorem spend_popPc (s : State) (cost : Nat) :
    spend (popPc s) cost =
      { s with cpu := { s.cpu with sp := s.cpu.sp + 2, pc := popped s }, cost := s.cost + cost } := by
  unfold popPc popSp
  rfl

/-- RETI pops and enables at once (R459, R606). -/
theorem exec_reti (s : State) :
    exec .reti s = .next
      { s with
        cpu := { s.cpu with sp := s.cpu.sp + 2, pc := popped s, ime := true, eiPending := false }
        cost := s.cost + 16 } := by
  change Host.Outcome.next (returnInt 16 s) = _
  unfold returnInt returnFromInterrupt popPc popSp
  rfl

/-- SP and pc are none of the hidden bits. -/
theorem returned_popPc (s : State) (cost : Nat) : Returned s (spend (popPc s) cost) cost := by
  rw [spend_popPc]
  exact ⟨rfl, quiet_cpu s _ cost ⟨rfl, rfl, rfl, rfl, rfl, rfl, rfl, rfl⟩⟩

theorem encode_retIf (cc : Cond) : encode (Instr.retIf cc) = [BitVec.ofNat 8 (0xC0 + 8 * condCode cc)] := by
  cases cc <;> rfl

/-- Settles O28: each form is one pop of pc, under a condition or none, and RETI enables at once. -/
theorem returns : Obligations.Returns := by
  unfold Obligations.Returns
  intro s cc ra
  refine ⟨⟨rfl, _, rfl, returned_popPc s 16⟩, ⟨encode_retIf cc, _, exec_retIf cc s, ?_⟩,
    rfl, _, exec_reti s, rfl, sameWorld_cpu s _ _, sameReads_cpu s _ _ rfl, rfl⟩
  exact conditional_effect (Effect := (Returned s · 20)) cc 8 (returned_popPc s 20)

end Sys2Proof.Machine
end

