-- ==== Sys2Proof/Proofs/CpuControl.lean ====
section
/-! CPU control (O25, O29-O32, R480-R487). NOP, DI, EI and HALT move the CPU alone; STOP zeroes the divider besides; the
prefix is the CB-map instruction its second byte names. -/

namespace Sys2Proof.Machine

/-- A move of the CPU that keeps the speed leaves the rest of the world and every read. -/
theorem frame_cpu (s : State) (c : Cpu) (cost : Nat) (h : c.doubleSpeed = s.cpu.doubleSpeed) :
    let t := { s with cpu := c, cost := s.cost + cost }
    SameWorld s t ∧ SameReads s t ∧ t.cost = s.cost + cost :=
  ⟨sameWorld_cpu s c _, sameReads_cpu s c _ h, rfl⟩

/-- Settles O29: each is one move of the CPU. -/
theorem nopDiEi : Obligations.NopDiEi := by
  unfold Obligations.NopDiEi
  intro s
  exact ⟨⟨rfl, rfl, rfl⟩, ⟨_, rfl, rfl, frame_cpu s _ 4 rfl⟩, ⟨_, rfl, rfl, frame_cpu s _ 4 rfl⟩,
    _, rfl, rfl, frame_cpu s _ 4 rfl⟩

/-- Settles O32: the meaning of an illegal opcode looks at no state. -/
theorem illegalStops : Obligations.IllegalStops := by
  unfold Obligations.IllegalStops
  intro op s
  have hencode : encode (Instr.illegal op) = [op.code] := by cases op <;> rfl
  exact ⟨hencode, exec_illegal op s⟩

/-! HALT. -/

/-- An interrupt is pending where a bit is set both in IE and in IF (R601). -/
theorem pendingIrq_ne_zero_iff (s : State) :
    pendingIrq s ≠ 0 ↔ ∃ k, k < 5 ∧ s.irq.enable.getLsbD k = true ∧ s.irq.flag.getLsbD k = true := by
  have hbit (k : Nat) (hk : k < 5) :
      (pendingIrq s).getLsbD k = (s.irq.enable.getLsbD k && s.irq.flag.getLsbD k) := by
    simp only [pendingIrq, BitVec.getLsbD_and, BitVec.getLsbD_setWidth, hk, decide_true, Bool.true_and]
  constructor
  · intro hne
    refine Classical.byContradiction fun hnone => hne (BitVec.eq_of_getLsbD_eq fun k hk => ?_)
    rw [hbit k hk]
    have hunset := fun hset => hnone ⟨k, hk, Bool.and_eq_true_iff.mp hset⟩
    exact (Bool.eq_false_iff.mpr hunset).trans BitVec.getLsbD_zero.symm
  · rintro ⟨k, hk, hset⟩ hzero
    have hclear : (pendingIrq s).getLsbD k = false := hzero ▸ BitVec.getLsbD_zero
    exact Bool.false_ne_true (hclear.symm.trans ((hbit k hk).trans (Bool.and_eq_true_iff.mpr hset)))

/-- HALT sets the one hidden bit (R481). -/
theorem exec_halt (s : State) :
    exec .halt s = .next
      { s with
        cpu :=
          if s.cpu.ime = false ∧ pendingIrq s ≠ 0 then { s.cpu with haltBug := true }
          else { s.cpu with halted := true }
        cost := s.cost + 4 } := by
  change Host.Outcome.next (haltCpu s) = _
  unfold haltCpu
  split <;> rfl

/-- Settles O30: the test of HALT is that of a pending interrupt with IME = 0. -/
theorem haltInstruction : Obligations.HaltInstruction := by
  unfold Obligations.HaltInstruction
  intro s bug
  have hbug : bug ↔ s.cpu.ime = false ∧ pendingIrq s ≠ 0 := and_congr_right' (pendingIrq_ne_zero_iff s).symm
  refine ⟨rfl, _, exec_halt s, fun h => if_pos (hbug.mp h), fun h => if_neg (mt hbug.mpr h), ?_⟩
  exact frame_cpu s _ 4 (by split <;> rfl)

/-! STOP. -/

/-- Of the timer's registers the increment writes TIMA alone (R622). -/
theorem timaIncrement_timer (s : State) :
    (timaIncrement s).timer.divCounter = s.timer.divCounter ∧ (timaIncrement s).timer.tma = s.timer.tma
      ∧ (timaIncrement s).timer.tac = s.timer.tac := by
  unfold timaIncrement
  split <;> exact ⟨rfl, rfl, rfl⟩

section SetDivider

variable (s : State) (v : BitVec 16)

/-- The edge check comes after the divider is set, and increments TIMA at most (R620, R621). -/
theorem setDivider_timer :
    (setDivider s v).timer.divCounter = v ∧ (setDivider s v).timer.tma = s.timer.tma
      ∧ (setDivider s v).timer.tac = s.timer.tac := by
  unfold setDivider timerEdgeCheck
  dsimp only
  split
  · exact timaIncrement_timer _
  · exact ⟨rfl, rfl, rfl⟩

/-- A signal that is low cannot fall, so TIMA does not count (R621). -/
theorem setDivider_of_signal_low (h : s.timer.signal = false) :
    (setDivider s v).timer.tima = s.timer.tima ∧ (setDivider s v).irq = s.irq := by
  unfold setDivider timerEdgeCheck
  dsimp only
  rw [h, Bool.false_and, if_neg Bool.false_ne_true]
  exact ⟨rfl, rfl⟩

/-- A change of the divider moves the timer and IF alone. -/
theorem setDivider_eq :
    setDivider s v = { s with timer := (setDivider s v).timer, irq := (setDivider s v).irq } := by
  unfold setDivider timerEdgeCheck timaIncrement
  dsimp only
  split
  · split <;> rfl
  · rfl

end SetDivider

/-- STOP zeroes the divider, then switches the speed if that is armed in CGB mode, and stops if not (R483). -/
theorem exec_stop (n : Byte) (s : State) :
    exec (.stop n) s = .next
      { s with
        timer := (setDivider s 0).timer
        irq := (setDivider s 0).irq
        cpu :=
          if cgbMode s = true ∧ s.sel.speedArmed = true then { s.cpu with doubleSpeed := !s.cpu.doubleSpeed }
          else { s.cpu with stopped := true }
        sel := if cgbMode s = true ∧ s.sel.speedArmed = true then { s.sel with speedArmed := false } else s.sel
        cost := s.cost + 4 } := by
  change Host.Outcome.next (stopCpu n s) = _
  have hdiv := setDivider_eq s 0
  unfold stopCpu cgbMode
  generalize (setDivider s 0).timer = timer, (setDivider s 0).irq = irq at hdiv ⊢
  rw [hdiv]
  simp only [Bool.and_eq_true]
  split <;> rfl

/-- Settles O31: the switch decides between the speed and the stopped state, and the divider's fall moves the timer and
IF alone. -/
theorem stopInstruction : Obligations.StopInstruction := by
  unfold Obligations.StopInstruction
  intro s n switch
  obtain ⟨hdiv, htma, htac⟩ := setDivider_timer s 0
  refine ⟨rfl, _, exec_stop n s, fun h => ⟨if_pos h, if_pos h⟩, fun h => ⟨if_neg h, if_neg h⟩, hdiv, htma, htac,
    setDivider_of_signal_low s 0, ?_, rfl⟩
  constructor <;> rfl

/-! The prefix. -/

/-- The CB-map instruction of group x, with field y, on a place (R396, R209). -/
def cbForm (x y : Nat) (p : Place) : Instr :=
  match x with
  | 0 => rotForm (rotOf y) p
  | 1 => bitForm (fin8Of y) p
  | 2 => resForm (fin8Of y) p
  | _ => setForm (fin8Of y) p

theorem decodeCb_eq_cbForm (op : Byte) :
    decodeCb op = cbForm (field op 7 6) (field op 5 3) (placeOf (regOf (field op 2 0))) := by
  unfold decodeCb
  generalize field op 7 6 = x, regOf (field op 2 0) = r
  match x with
  | 0 | 1 | 2 | _ + 3 => cases r <;> rfl

/-- An instruction of the CB map has two bytes, the prefix alone has one (R211). -/
theorem cbForm_ne_prefixCb (x y : Nat) (p : Place) : cbForm x y p ≠ .prefixCb := by
  have hlength : (encode (cbForm x y p)).length = 2 := by
    unfold cbForm
    split
    · rw [encode_rotForm]; rfl
    · rw [encode_bitForm]; rfl
    · rw [encode_resForm]; rfl
    · rw [encode_setForm]; rfl
  intro h
  rw [h] at hlength
  cases hlength

theorem ite_atHL_eq_placeCost (p : Place) (reg mem : Nat) :
    (if decide (p = .atHL) = true then mem else reg) = placeCost p reg mem := by
  cases p <;> rfl

/-- The meaning of the byte after the prefix is that of the instruction it decodes to (R487, R396). -/
theorem exec_decodeCb (op : Byte) (s : State) : exec (decodeCb op) s = .next (runCb op s) := by
  have hy : ((fin8Of (field op 5 3) : Fin 8) : Nat) = field op 5 3 := Nat.mod_mod _ 8
  rw [decodeCb_eq_cbForm]
  unfold runCb
  generalize field op 7 6 = x
  simp only [ite_atHL_eq_placeCost]
  match x with
  | 0 => exact exec_rotForm _ _ s
  | 1 => exact (exec_bitForm _ _ s).trans (by rw [hy]; rfl)
  | 2 => exact (exec_resForm _ _ s).trans (by rw [hy]; rfl)
  | _ + 3 => exact (exec_setForm _ _ s).trans (by rw [hy]; rfl)

/-- Settles O25: the opcode 0xCB leads the decoder to the CB map, whose instructions are what the prefix runs. -/
theorem prefixRuns : Obligations.PrefixRuns := by
  unfold Obligations.PrefixRuns
  intro s
  have hdecode (op : Byte) : decodeBytes 0xCB op 0 = decodeCb op := rfl
  rw [hdecode]
  refine ⟨?_, (exec_decodeCb _ _).symm, _, rfl⟩
  rw [decodeCb_eq_cbForm]
  exact cbForm_ne_prefixCb _ _ _

end Sys2Proof.Machine
end

