-- ==== Sys2Proof/Proofs/InstructionFetch.lean ====
section
/-! The fetch of an instruction (O34, R35, R482, R610): the step runs what the decoder reads from the bytes fetched one
after the other, and the HALT bug changes which byte the second one is. -/

namespace Sys2Proof.Machine

/-- The state after n bytes are fetched, one at a time (R9). -/
def afterFetches : Nat → State → State
  | 0, s => s
  | n + 1, s => afterFetches n (fetch8 s).2

/-- The first byte tells that an instruction has one, two or three (R200). -/
theorem instrLength_cases (op : Byte) : instrLength op = 1 ∨ instrLength op = 2 ∨ instrLength op = 3 := by
  unfold instrLength
  split
  · exact .inr (.inl rfl)
  · split
    · exact .inr (.inr rfl)
    · exact .inl rfl

/-- The fetch takes the bytes that the decoder takes of the three that it could fetch. -/
theorem fetchInstr_of_decode {s : State} {i : Instr} {rest : List Byte}
    (h : decode [(fetch8 s).1, (fetch8 (afterFetches 1 s)).1, (fetch8 (afterFetches 2 s)).1] = .ok (i, rest)) :
    ∃ n, n + 1 + rest.length = 3 ∧ fetchInstr s = (i, afterFetches (n + 1) s) := by
  unfold fetchInstr
  rcases instrLength_cases (fetch8 s).1 with hlen | hlen | hlen <;> simp only [decode, hlen] at h ⊢ <;> cases h
  · exact ⟨0, rfl, rfl⟩
  · exact ⟨1, rfl, rfl⟩
  · exact ⟨2, rfl, rfl⟩

theorem memRead_beginStep (s : State) (a : Word) : memRead (beginStep s) a = memRead s a :=
  SameBus.memRead (by constructor <;> rfl) a

/-- A fetch moves pc by one, but under the HALT bug, which it clears (R9, R482). -/
theorem fetch8_snd_of_noBug {s : State} (h : s.cpu.haltBug = false) : (fetch8 s).2 = setPc s (s.cpu.pc + 1) := by
  simp only [fetch8, setPc, h, Bool.false_eq_true, if_false]

theorem fetch8_snd_of_bug {s : State} (h : s.cpu.haltBug = true) :
    (fetch8 s).2 = { s with cpu := { s.cpu with haltBug := false } } := by
  simp only [fetch8, h, if_true]

theorem afterFetches_of_noBug {s : State} (h : s.cpu.haltBug = false) (n : Nat) :
    afterFetches n s = setPc s (s.cpu.pc + BitVec.ofNat 16 n) := by
  induction n generalizing s with
  | zero => exact (congrArg (setPc s) (BitVec.add_zero s.cpu.pc)).symm
  | succ n ih =>
    rw [afterFetches, fetch8_snd_of_noBug h, ih (s := setPc s (s.cpu.pc + 1)) h]
    have hpc : s.cpu.pc + 1 + BitVec.ofNat 16 n = s.cpu.pc + BitVec.ofNat 16 (n + 1) := by
      rw [BitVec.add_assoc, Nat.add_comm n 1, BitVec.ofNat_add]
      rfl
    exact congrArg (setPc s) hpc

/-- Under the HALT bug the first fetch clears the bug and leaves pc, and the later ones are as without it (R482). -/
theorem afterFetches_of_bug {s : State} (h : s.cpu.haltBug = true) (n : Nat) :
    afterFetches (n + 1) s =
      { s with cpu := { s.cpu with haltBug := false, pc := s.cpu.pc + BitVec.ofNat 16 n } } := by
  rw [afterFetches, fetch8_snd_of_bug h]
  exact afterFetches_of_noBug rfl n

/-- What a step answers, told from what its instruction answers: on a next state the EI delay and the device window
follow (R610, R612). -/
def finishExec (s : State) : Result → Result
  | .next t => .next (finishStep s.cpu.doubleSpeed (finishInstr s.cpu.eiPending t))
  | .fault r => .fault r
  | .refused r => .refused r

theorem step_of_fetch {s : State} (h : nextAction s = .fetch) :
    step s = finishExec s (exec (fetchInstr (beginStep s)).1 (fetchInstr (beginStep s)).2) := by
  have hbegin : nextAction (beginStep s) = .fetch := h
  unfold step
  simp only [hbegin]
  rfl

/-- Settles O34: the byte at pc is fetched twice, so pc ends one short of the bytes the decoder takes. -/
theorem haltBugFetch : Obligations.HaltBugFetch := by
  unfold Obligations.HaltBugFetch
  intro s i rest hnext hbug hdecode
  have hafter := afterFetches_of_bug (s := beginStep s) hbug
  have hread (n : Nat) :
      (fetch8 (afterFetches (n + 1) (beginStep s))).1 = memRead s (s.cpu.pc + BitVec.ofNat 16 n) := by
    rw [hafter, fetch8_fst]
    exact (sameReads_cpu (beginStep s) _ 0 rfl _).trans (memRead_beginStep s _)
  have hbytes : decode [(fetch8 (beginStep s)).1, (fetch8 (afterFetches 1 (beginStep s))).1,
      (fetch8 (afterFetches 2 (beginStep s))).1] = .ok (i, rest) := by
    rw [hread 0, hread 1, fetch8_fst, memRead_beginStep, BitVec.add_zero]
    exact hdecode
  obtain ⟨n, hn, hinstr⟩ := fetchInstr_of_decode hbytes
  obtain rfl : n = 2 - rest.length := by omega
  rw [step_of_fetch hnext, hinstr, hafter]
  rfl

end Sys2Proof.Machine
end

