-- ==== Sys2Proof/Proofs/DeviceWrites.lean ====
section
/-! What a CPU write can do to the units that watch a signal (R621, R630, R656), to the PPU's position and to the cost:
it goes to one IO register, or it leaves all of them as they were. -/

namespace Sys2Proof.Machine

/-- The parts of the PPU that its clock and the STAT line look at (R641, R656), and the recorded line, do not differ. -/
structure SamePpuClock (p q : Ppu) : Prop where
  lcdc : q.lcdc = p.lcdc
  stat : q.stat = p.stat
  lyc : q.lyc = p.lyc
  ly : q.ly = p.ly
  dot : q.dot = p.dot
  mode : q.mode = p.mode
  statLine : q.statLine = p.statLine

theorem SamePpuClock.refl (p : Ppu) : SamePpuClock p p := ⟨rfl, rfl, rfl, rfl, rfl, rfl, rfl⟩

/-- The STAT update records the line and changes nothing else of the PPU (R656). -/
@[simp] theorem statUpdate_ppu (s : State) :
    (statUpdate s).ppu = { s.ppu with statLine := statCondition s.ppu } := by
  simp only [statUpdate]
  split <;> rfl

/-- A locked-out write steps a palette index at most (R109). -/
theorem lockedWrite_ppuClock (s : State) (a : Word) : SamePpuClock s.ppu (lockedWrite s a).ppu := by
  simp only [lockedWrite]
  (repeat' split) <;> exact ⟨rfl, rfl, rfl, rfl, rfl, rfl, rfl⟩

/-- The units that watch a signal, the PPU's position and the cost do not differ. -/
structure SameWatched (s t : State) : Prop where
  timer : t.timer = s.timer
  joypad : t.joypad = s.joypad
  ppu : SamePpuClock s.ppu t.ppu
  cost : t.cost = s.cost

theorem targetWrite_cases (s : State) (g : Target) (v : Byte) :
    SameWatched s (targetWrite s g v) ∨ ∃ r, targetWrite s g v = ioRegWrite s r v := by
  have same {t : State} (ht : t.timer = s.timer) (hj : t.joypad = s.joypad) (hp : t.ppu = s.ppu)
      (hc : t.cost = s.cost) : SameWatched s t := ⟨ht, hj, hp ▸ .refl s.ppu, hc⟩
  cases g with
  | mbc n => exact .inl (same (mbcWrite_timer ..) (mbcWrite_joypad ..) (mbcWrite_ppu ..) (mbcWrite_cost ..))
  | ext n =>
    exact .inl (same (mbcWriteRam_timer ..) (mbcWriteRam_joypad ..) (mbcWriteRam_ppu ..) (mbcWriteRam_cost ..))
  | io n =>
    simp only [targetWrite, ioWrite]
    split
    · exact .inr ⟨_, rfl⟩
    · exact .inl (same rfl rfl rfl rfl)
  | cell | unusable | ie => exact .inl (same rfl rfl rfl rfl)

/-- Said once, what a CPU write can do to them (R103). -/
theorem memWrite_cases (s : State) (a : Word) (v : Byte) :
    SameWatched s (memWrite s a v) ∨ ∃ r, memWrite s a v = ioRegWrite s r v := by
  simp only [memWrite]
  split
  · exact .inl ⟨lockedWrite_timer s a, lockedWrite_joypad s a, lockedWrite_ppuClock s a, lockedWrite_cost s a⟩
  · exact targetWrite_cases s _ v

/-- Of the IO registers only LCDC, STAT and LYC reach the PPU's clock and the STAT line. -/
theorem ioRegWrite_ppu_cases (s : State) (r : IoReg) (v : Byte) :
    SamePpuClock s.ppu (ioRegWrite s r v).ppu ∨ r = .lcdc ∨ r = .stat ∨ r = .lyc := by
  cases r
  case lcdc => exact .inr (.inl rfl)
  case stat => exact .inr (.inr (.inl rfl))
  case lyc => exact .inr (.inr (.inr rfl))
  all_goals
    left
    simp only [ioRegWrite, p1Write_ppu, scWrite_ppu, setDivider_ppu, tacWrite_ppu, hdma5Write_ppu, poke_ppu, bcpdWrite,
      ocpdWrite, dmaWrite, oamCopy_ppu]
    exact ⟨rfl, rfl, rfl, rfl, rfl, rfl, rfl⟩

end Sys2Proof.Machine
end

