-- ==== Sys2Proof/Proofs/PpuInvariant.lean ====
section
/-! The PPU's position (O42, O57, R640, R641, R647). A write to LCDC that switches the LCD sends it to the top of a
frame; otherwise only a dot moves it, within its line or to the next. -/

namespace Sys2Proof.Machine

/-- The position depends on the line, the dot, the mode and the LCD bit alone. -/
theorem PpuOk.congr {s t : State} (h : PpuOk s) (hp : SamePpuClock s.ppu t.ppu) : PpuOk t := by
  unfold PpuOk lcdOn
  rw [hp.ly, hp.dot, hp.mode, hp.lcdc]
  exact h

theorem PpuOk.of_ppu_eq {s t : State} (h : PpuOk s) (hp : t.ppu = s.ppu) : PpuOk t := h.congr (hp ▸ .refl s.ppu)

theorem ppuOk_statUpdate {s : State} (h : PpuOk s) : PpuOk (statUpdate s) := by
  unfold PpuOk lcdOn
  rw [statUpdate_ppu]
  exact h

/-- At the top of a frame the PPU scans OAM, or is parked with the LCD off. -/
theorem ppuOk_of_top {s : State} (hly : s.ppu.ly = 0) (hdot : s.ppu.dot = 0)
    (hmode : s.ppu.mode = if lcdOn s then .oamScan else .hblank) : PpuOk s := by
  unfold PpuOk
  rw [hly, hdot, hmode]
  refine ⟨Nat.zero_lt_succ _, Nat.zero_lt_succ _, fun hon => ?_, fun hoff => ⟨rfl, rfl, ?_⟩⟩
  · rw [if_pos hon]
    rfl
  · rw [if_neg (Bool.eq_false_iff.mp hoff)]

/-- Switching the LCD parks the PPU or starts it at the top of a frame (R647). -/
theorem ppuOk_lcdcWrite {s : State} (v : Byte) (h : PpuOk s) : PpuOk (lcdcWrite s v) := by
  unfold lcdcWrite
  split
  next hv => exact ppuOk_statUpdate (ppuOk_of_top rfl rfl (if_neg (Bool.eq_false_iff.mp hv)).symm)
  next hv => exact ppuOk_statUpdate (ppuOk_of_top rfl rfl (if_pos hv).symm)
  next hturnOff hturnOn =>
    have hkept : v.getLsbD 7 = s.ppu.lcdc.getLsbD 7 := by
      cases ho : s.ppu.lcdc.getLsbD 7 <;> cases hv : v.getLsbD 7
      · rfl
      · exact (hturnOn ho hv).elim
      · exact (hturnOff ho hv).elim
      · rfl
    refine ppuOk_statUpdate ?_
    unfold PpuOk lcdOn
    rw [hkept]
    exact h

theorem ppuOk_ioRegWrite {s : State} (r : IoReg) (v : Byte) (h : PpuOk s) : PpuOk (ioRegWrite s r v) := by
  obtain hsame | rfl | rfl | rfl := ioRegWrite_ppu_cases s r v
  · exact h.congr hsame
  · exact ppuOk_lcdcWrite v h
  · exact ppuOk_statUpdate (s := { s with ppu := { s.ppu with stat := v &&& 0x78 } }) h
  · exact ppuOk_statUpdate (s := { s with ppu := { s.ppu with lyc := v } }) h

theorem ppuOk_memWrite (s : State) (a : Word) (v : Byte) (h : PpuOk s) : PpuOk (memWrite s a v) := by
  obtain hsame | ⟨r, hr⟩ := memWrite_cases s a v
  · exact h.congr hsame.ppu
  · exact hr ▸ ppuOk_ioRegWrite r v h

/-! The dot. -/

/-- The PPU is at line l and dot d in the mode of R640, and LCDC holds c. -/
structure PpuAt (s : State) (c : Byte) (l d : Nat) : Prop where
  lcdc : s.ppu.lcdc = c
  ly : s.ppu.ly = l
  dot : s.ppu.dot = d
  mode : s.ppu.mode = modeAt l d

theorem PpuAt.statUpdate {s : State} {c : Byte} {l d : Nat} (h : PpuAt s c l d) : PpuAt (statUpdate s) c l d := by
  obtain ⟨hlcdc, hly, hdot, hmode⟩ := h
  constructor <;> rw [statUpdate_ppu] <;> assumption

/-- The line after a line of the frame (R641). -/
def nextLine (ly : Nat) : Nat := if ly = 153 then 0 else ly + 1

/-- The end of a line leads to the first dot of the next (R641). -/
theorem ppuAt_lineEnd {s : State} (hly : s.ppu.ly < 154) (hmode : 144 ≤ s.ppu.ly → s.ppu.mode = .vblank) :
    PpuAt (lineEnd s) s.ppu.lcdc (nextLine s.ppu.ly) 0 := by
  unfold lineEnd nextLine
  dsimp only
  by_cases hlast : s.ppu.ly = 153
  · simp only [hlast, frameStart]
    exact ⟨rfl, rfl, rfl, rfl⟩
  · have hnext : s.ppu.ly + 1 ≠ 154 := by omega
    simp only [hlast, hnext, if_false]
    split
    next hv => exact ⟨rfl, rfl, rfl, by simp [modeAt, hv]⟩
    next hv =>
      split
      next hlt => exact ⟨rfl, rfl, rfl, by simp [modeAt, Nat.not_le.mpr hlt]⟩
      next hge => exact ⟨rfl, rfl, rfl, by simp [modeAt, hmode (by omega), Nat.not_lt.mp hge]⟩

/-- Only the PPU's dot counts (R641). -/
def countDot (s : State) : State := { s with ppu := { s.ppu with dot := s.ppu.dot + 1 } }

/-- What a dot does before the STAT line is updated (R641): the end of a line, of the OAM scan or of drawing, or
nothing more than counting. -/
theorem ppuDot_cases {s : State} (hon : lcdOn s = true) :
    (s.ppu.dot = 455 ∧ ppuDot s = statUpdate (lineEnd (countDot s)))
      ∨ (s.ppu.dot = 79 ∧ s.ppu.ly < 144 ∧ ppuDot s = statUpdate (scanEnd (countDot s)))
      ∨ (s.ppu.dot = 251 ∧ s.ppu.ly < 144 ∧ ppuDot s = statUpdate (drawEnd (countDot s)))
      ∨ (s.ppu.dot ≠ 455 ∧ (s.ppu.ly < 144 → s.ppu.dot ≠ 79 ∧ s.ppu.dot ≠ 251)
        ∧ ppuDot s = statUpdate (countDot s)) := by
  unfold ppuDot
  rw [if_pos hon]
  simp only [Nat.reduceEqDiff]
  split
  next hd => exact .inl ⟨hd, rfl⟩
  next hd =>
    split
    next h => exact .inr (.inl ⟨h.2, h.1, rfl⟩)
    next hscan =>
      split
      next h => exact .inr (.inr (.inl ⟨h.2, h.1, rfl⟩))
      next hdraw => exact .inr (.inr (.inr ⟨hd, fun hl => ⟨fun h => hscan ⟨hl, h⟩, fun h => hdraw ⟨hl, h⟩⟩, rfl⟩))

/-- Drawing ends in HBLANK and leaves the position (R641). -/
theorem drawEnd_ppu (s : State) : (drawEnd s).ppu = { (renderLine s).ppu with mode := .hblank } := by
  unfold drawEnd
  rw [hblankHook_ppu]

/-- Between the edges of a line the table of R640 keeps its mode. -/
theorem modeAt_succ {l d : Nat} (h : l < 144 → d ≠ 79 ∧ d ≠ 251) : modeAt l (d + 1) = modeAt l d := by
  have hscan : l < 144 → (d + 1 < 80 ↔ d < 80) := fun hl => by have := h hl; omega
  have hdraw : l < 144 → (d + 1 < 252 ↔ d < 252) := fun hl => by have := h hl; omega
  unfold modeAt
  split
  · rfl
  next hl => simp only [hscan (Nat.not_le.mp hl), hdraw (Nat.not_le.mp hl)]

/-- A dot inside a line moves to the next one. -/
theorem ppuDot_within_line {s : State} (h : PpuOk s) (hon : lcdOn s = true) (hd : s.ppu.dot ≠ 455) :
    PpuAt (ppuDot s) s.ppu.lcdc s.ppu.ly (s.ppu.dot + 1) := by
  obtain ⟨-, -, hmode, -⟩ := h
  obtain ⟨h, -⟩ | ⟨hd, hly, heq⟩ | ⟨hd, hly, heq⟩ | ⟨-, hedge, heq⟩ := ppuDot_cases hon
  · exact absurd h hd
  · rw [heq]
    exact PpuAt.statUpdate ⟨rfl, rfl, rfl, by simp [modeAt, hd, Nat.not_le.mpr hly, scanEnd]⟩
  · rw [heq]
    refine PpuAt.statUpdate ?_
    constructor <;> rw [drawEnd_ppu]
    · rfl
    · rfl
    · rfl
    · simp [modeAt, hd, Nat.not_le.mpr hly]
  · rw [heq]
    exact PpuAt.statUpdate ⟨rfl, rfl, rfl, (hmode hon).trans (modeAt_succ hedge).symm⟩

/-- The last dot of a line moves to the next line. -/
theorem ppuDot_line_end {s : State} (h : PpuOk s) (hon : lcdOn s = true) (hd : s.ppu.dot = 455) :
    ppuDot s = statUpdate (lineEnd (countDot s)) ∧ PpuAt (ppuDot s) s.ppu.lcdc (nextLine s.ppu.ly) 0 := by
  obtain ⟨hly, -, hmode, -⟩ := h
  have heq : ppuDot s = statUpdate (lineEnd (countDot s)) := by
    obtain ⟨-, heq⟩ | ⟨h, -⟩ | ⟨h, -⟩ | ⟨h, -⟩ := ppuDot_cases hon
    · exact heq
    all_goals omega
  exact ⟨heq, heq ▸ (ppuAt_lineEnd (s := countDot s) hly fun hl => (hmode hon).trans (if_pos hl)).statUpdate⟩

theorem ppuDot_of_off {s : State} (hoff : lcdOn s = false) : ppuDot s = s := if_neg (Bool.eq_false_iff.mp hoff)

theorem ppuOk_of_ppuAt {s t : State} {l d : Nat} (hon : lcdOn s = true) (h : PpuAt t s.ppu.lcdc l d) (hl : l < 154)
    (hd : d < 456) : PpuOk t := by
  have hon' : lcdOn t = true := (congrArg (·.getLsbD 7) h.lcdc).trans hon
  refine ⟨h.ly ▸ hl, h.dot ▸ hd, fun _ => ?_, fun hoff => absurd (hon'.symm.trans hoff) nofun⟩
  rw [h.mode, h.ly, h.dot]

theorem ppuOk_ppuDot {s : State} (h : PpuOk s) : PpuOk (ppuDot s) := by
  have ⟨hly, hdot, _, _⟩ := h
  cases hon : lcdOn s with
  | false => exact (ppuDot_of_off hon).symm ▸ h
  | true =>
    by_cases hd : s.ppu.dot = 455
    · refine ppuOk_of_ppuAt hon (ppuDot_line_end h hon hd).2 ?_ (by decide)
      unfold nextLine
      split <;> omega
    · exact ppuOk_of_ppuAt hon (ppuDot_within_line h hon hd) hly (by omega)

theorem ppuOk_deviceTick (s : State) (fast : Bool) (k : Nat) (h : PpuOk s) : PpuOk (deviceTick fast k s) := by
  have h' : PpuOk (serialTick (timerTick s)) := h.of_ppu_eq (by simp)
  simp only [deviceTick]
  split
  · exact (ppuOk_ppuDot h').of_ppu_eq (by simp)
  · exact h'

/-- Every move of a step keeps the position: only CPU writes and the dots reach the PPU. -/
theorem ppuOk_stepClosed : StepClosed PpuOk where
  cpu _ _ _ _ _ _ _ h := h
  write := ppuOk_memWrite
  divider s h := h.of_ppu_eq (setDivider_ppu s 0)
  armed _ _ h := h
  fresh _ _ h := h
  flag _ _ h := h
  dispatchCost _ _ _ h := h
  device := ppuOk_deviceTick
  count _ _ h := h

/-- Settles O42: the moves of a step keep the position, so the step does. -/
theorem ppuInvariant : Obligations.PpuInvariant := by
  unfold Obligations.PpuInvariant
  intro s t h hs
  exact step_keeps ppuOk_stepClosed h hs

/-! The position in the frame. -/

/-- The STAT line requests its own interrupt alone (R656). -/
theorem statUpdate_vblank_flag (s : State) : (statUpdate s).irq.flag.getLsbD 0 = s.irq.flag.getLsbD 0 := by
  simp only [statUpdate]
  split
  · simp [request]
  · rfl

/-- The callback and the request of VBlank come on entering line 144 alone (R641, R659). -/
theorem lineEnd_vblank (s : State) :
    (lineEnd s).callbacks = (if s.ppu.ly = 143 then s.callbacks ++ [.vblank] else s.callbacks)
      ∧ (lineEnd s).irq.flag.getLsbD 0 = (decide (s.ppu.ly = 143) || s.irq.flag.getLsbD 0) := by
  unfold lineEnd
  dsimp only
  by_cases hlast : s.ppu.ly = 153
  · simp [hlast, frameStart]
  · have hnext : s.ppu.ly + 1 ≠ 154 := by omega
    simp only [hnext, if_false, Nat.reduceEqDiff]
    split
    next hv => exact ⟨rfl, by simp [hv, callBack, request]⟩
    next hv => split <;> exact ⟨rfl, by simp [hv]⟩

/-- Inside a line there is no VBlank. -/
theorem ppuDot_within_line_vblank {s : State} (hon : lcdOn s = true) (hd : s.ppu.dot ≠ 455) :
    (ppuDot s).callbacks = s.callbacks ∧ (ppuDot s).irq.flag.getLsbD 0 = s.irq.flag.getLsbD 0 := by
  obtain ⟨h, -⟩ | ⟨-, -, heq⟩ | ⟨-, -, heq⟩ | ⟨-, -, heq⟩ := ppuDot_cases hon
  · exact absurd h hd
  all_goals rw [heq, statUpdate_callbacks, statUpdate_vblank_flag]
  · exact ⟨rfl, rfl⟩
  · simp [drawEnd, countDot]
  · exact ⟨rfl, rfl⟩

/-- At the end of a line VBlank comes where line 144 is next. -/
theorem ppuDot_line_end_vblank {s : State} (heq : ppuDot s = statUpdate (lineEnd (countDot s))) :
    (ppuDot s).callbacks = (if s.ppu.ly = 143 then s.callbacks ++ [.vblank] else s.callbacks)
      ∧ (ppuDot s).irq.flag.getLsbD 0 = (decide (s.ppu.ly = 143) || s.irq.flag.getLsbD 0) := by
  rw [heq, statUpdate_callbacks, statUpdate_vblank_flag]
  exact lineEnd_vblank (countDot s)

/-- Line 144 follows line 143 alone, and the line after the last is at the frame's start. -/
theorem nextLine_position {l : Nat} (hl : l < 154) :
    nextLine l * 456 + 0 = (l * 456 + 455 + 1) % 70224 ∧ (nextLine l * 456 + 0 = 144 * 456 ↔ l = 143) := by
  unfold nextLine
  split <;> omega

/-- Settles O57: a dot moves within its line or to the next, and only line 144 is VBlank's. -/
theorem ppuPosition : Obligations.PpuPosition := by
  unfold Obligations.PpuPosition
  intro s h t
  have ⟨hly, hdot, _, _⟩ := h
  refine ⟨ppuDot_of_off, fun hon => ?_⟩
  unfold framePosition
  by_cases hd : s.ppu.dot = 455
  · obtain ⟨heq, hat⟩ := ppuDot_line_end h hon hd
    obtain ⟨hcall, hflag⟩ := ppuDot_line_end_vblank heq
    obtain ⟨hpos, hentry⟩ := nextLine_position hly
    rw [hcall, hflag, hat.ly, hat.dot, hd, hentry]
    exact ⟨hpos, fun hv => by simp [hv], fun hv => by simp [mt hentry.mpr hv]⟩
  · have hat := ppuDot_within_line h hon hd
    have hquiet := ppuDot_within_line_vblank hon hd
    rw [hat.ly, hat.dot]
    exact ⟨by omega, fun hv => by omega, fun _ => hquiet⟩

end Sys2Proof.Machine
end

