-- ==== Sys2Proof/Proofs/LinesInvariant.lean ====
section
/-! The recorded lines of the edge detectors (O43, R621, R630, R656). Whatever changes an input of a line runs its
check, and the check records the line. -/

namespace Sys2Proof.Machine

/-- The recorded timer signal is what the registers give (R621). -/
def TimerLineOk (t : Timer) : Prop := t.signal = timerClock t

/-- The recorded STAT line is what the registers give (R656). -/
def StatLineOk (p : Ppu) : Prop := p.statLine = statCondition p

/-- The recorded P1 lines are what the registers give (R630). -/
def P1LinesOk (j : Joypad) : Prop := j.lines = p1Lines j

theorem linesOk_iff (s : State) : LinesOk s ↔ TimerLineOk s.timer ∧ StatLineOk s.ppu ∧ P1LinesOk s.joypad := Iff.rfl

/-! Each check records its line. -/

theorem timerLineOk_timerEdgeCheck (s : State) : TimerLineOk (timerEdgeCheck s).timer := by
  unfold timerEdgeCheck TimerLineOk timerClock
  dsimp only
  split
  · obtain ⟨hdiv, -, htac⟩ := timaIncrement_timer s
    rw [hdiv, htac]
  · rfl

theorem statLineOk_statUpdate (s : State) : StatLineOk (statUpdate s).ppu := by
  rw [statUpdate_ppu]
  rfl

theorem p1LinesOk_joypadCheck (s : State) : P1LinesOk (joypadCheck s).joypad := by
  unfold joypadCheck
  dsimp only
  split <;> rfl

theorem StatLineOk.congr {p q : Ppu} (h : StatLineOk p) (hs : SamePpuClock p q) : StatLineOk q := by
  unfold StatLineOk statCondition lycMatch
  rw [hs.statLine, hs.lcdc, hs.stat, hs.lyc, hs.ly, hs.mode]
  exact h

/-! CPU writes. -/

theorem statLineOk_ioRegWrite {s : State} (r : IoReg) (v : Byte) (h : StatLineOk s.ppu) :
    StatLineOk (ioRegWrite s r v).ppu := by
  obtain hsame | rfl | rfl | rfl := ioRegWrite_ppu_cases s r v
  · exact h.congr hsame
  · simp only [ioRegWrite, lcdcWrite]
    split <;> exact statLineOk_statUpdate _
  · exact statLineOk_statUpdate _
  · exact statLineOk_statUpdate _

/-- Of the IO registers only DIV and TAC reach the timer's signal, and both look for the edge at once (R620, R621). -/
theorem timerLineOk_ioRegWrite {s : State} (r : IoReg) (v : Byte) (h : TimerLineOk s.timer) :
    TimerLineOk (ioRegWrite s r v).timer := by
  cases r
  case div => exact timerLineOk_timerEdgeCheck _
  case tac => exact timerLineOk_timerEdgeCheck _
  all_goals
    simp only [ioRegWrite, p1Write_timer, scWrite_timer, lcdcWrite_timer, statWrite_timer, lycWrite_timer,
      dmaWrite_timer, hdma5Write_timer, poke_timer, bcpdWrite, ocpdWrite]
    exact h

/-- Of the IO registers only P1 reaches the joypad, and it looks for the edge at once (R630). -/
theorem p1LinesOk_ioRegWrite {s : State} (r : IoReg) (v : Byte) (h : P1LinesOk s.joypad) :
    P1LinesOk (ioRegWrite s r v).joypad := by
  cases r
  case p1 => exact p1LinesOk_joypadCheck _
  all_goals
    simp only [ioRegWrite, scWrite_joypad, setDivider_joypad, tacWrite_joypad, lcdcWrite_joypad, statWrite_joypad,
      lycWrite_joypad, dmaWrite_joypad, hdma5Write_joypad, poke_joypad, bcpdWrite, ocpdWrite]
    exact h

theorem linesOk_memWrite (s : State) (a : Word) (v : Byte) (h : LinesOk s) : LinesOk (memWrite s a v) := by
  obtain ⟨ht, hp, hj⟩ := (linesOk_iff s).mp h
  obtain hsame | ⟨r, hr⟩ := memWrite_cases s a v
  · exact ⟨hsame.timer ▸ ht, hp.congr hsame.ppu, hsame.joypad ▸ hj⟩
  · rw [hr]
    exact ⟨timerLineOk_ioRegWrite r v ht, statLineOk_ioRegWrite r v hp, p1LinesOk_ioRegWrite r v hj⟩

/-! The devices. -/

/-- Every dot ends with the STAT update while the LCD is on (R641). -/
theorem statLineOk_ppuDot {s : State} (h : StatLineOk s.ppu) : StatLineOk (ppuDot s).ppu := by
  cases hon : lcdOn s with
  | false => rwa [ppuDot_of_off hon]
  | true =>
    obtain ⟨-, heq⟩ | ⟨-, -, heq⟩ | ⟨-, -, heq⟩ | ⟨-, -, heq⟩ := ppuDot_cases hon <;> rw [heq] <;>
      exact statLineOk_statUpdate _

/-- A T-cycle of the devices looks for the timer's edge, and where it is a dot's, for the STAT line's. -/
theorem linesOk_deviceTick (s : State) (fast : Bool) (k : Nat) (h : LinesOk s) : LinesOk (deviceTick fast k s) := by
  obtain ⟨-, hp, hj⟩ := (linesOk_iff s).mp h
  have htick : TimerLineOk (timerTick s).timer := timerLineOk_timerEdgeCheck _
  rw [linesOk_iff]
  unfold deviceTick
  dsimp only
  split
  · refine ⟨by simpa using htick, ?_, by simpa using hj⟩
    rw [rtcDot_ppu, apuDot_ppu]
    exact statLineOk_ppuDot (by simpa using hp)
  · exact ⟨by simpa using htick, by simpa using hp, by simpa using hj⟩

/-- Every move of a step keeps the recorded lines: what changes an input of one looks for its edge. -/
theorem linesOk_stepClosed : StepClosed LinesOk where
  cpu _ _ _ _ _ _ _ h := h
  write := linesOk_memWrite
  divider s h := ⟨timerLineOk_timerEdgeCheck _, by simpa using h.2⟩
  armed _ _ h := h
  fresh _ _ h := h
  flag _ _ h := h
  dispatchCost _ _ _ h := h
  device := linesOk_deviceTick
  count _ _ h := h

/-- Settles O43: the moves of a step keep the recorded lines, so the step does. -/
theorem linesInvariant : Obligations.LinesInvariant := by
  unfold Obligations.LinesInvariant
  intro s t h hs
  exact step_keeps linesOk_stepClosed h hs

end Sys2Proof.Machine
end

