-- ==== Sys2Proof/Proofs/StepActions.lean ====
section
/-! What a step does, action by action (O33, O35-O38, R600-R614): the recorded fault, the stopped and halted steps, the
dispatch of an interrupt, and the instruction that a fetch decodes. -/

namespace Sys2Proof.Machine

/-! The step of each action (R610); that of a fetch is `step_of_fetch`. -/

theorem step_of_faulted {s : State} {op : Byte} {cb : Bool} (h : nextAction s = .faulted op cb) :
    step s = .fault (.unknownInstruction op cb) := by
  have hbegin : nextAction (beginStep s) = .faulted op cb := h
  simp only [step, hbegin]

theorem step_of_stopped {s : State} (h : nextAction s = .stopped) : step s = .next (stoppedStep (beginStep s)) := by
  have hbegin : nextAction (beginStep s) = .stopped := h
  simp only [step, hbegin]

theorem step_of_dispatch {s : State} (h : nextAction s = .dispatch) :
    step s = .next (finishStep s.cpu.doubleSpeed (dispatchInterrupt (beginStep s))) := by
  have hbegin : nextAction (beginStep s) = .dispatch := h
  simp only [step, hbegin, beginStep_cpu]

theorem step_of_halted {s : State} (h : nextAction s = .halted) :
    step s = .next (finishStep s.cpu.doubleSpeed (haltedStep (beginStep s))) := by
  have hbegin : nextAction (beginStep s) = .halted := h
  simp only [step, hbegin, beginStep_cpu]

/-! The fetch. -/

/-- Settles O33: without the HALT bug each fetch moves pc by one, so the bytes decoded are those from pc on. -/
theorem stepRunsDecoded : Obligations.StepRunsDecoded := by
  unfold Obligations.StepRunsDecoded
  intro s i rest hnext hbug hdecode
  have hafter := afterFetches_of_noBug (s := beginStep s) hbug
  have hread (n : Nat) :
      (fetch8 (afterFetches n (beginStep s))).1 = memRead s (s.cpu.pc + BitVec.ofNat 16 n) := by
    rw [hafter, fetch8_fst]
    exact (sameReads_cpu (beginStep s) _ 0 rfl _).trans (memRead_beginStep s _)
  have hbytes : decode [(fetch8 (beginStep s)).1, (fetch8 (afterFetches 1 (beginStep s))).1,
      (fetch8 (afterFetches 2 (beginStep s))).1] = .ok (i, rest) := by
    rw [hread 1, hread 2, fetch8_fst, memRead_beginStep]
    exact hdecode
  obtain ⟨n, hn, hinstr⟩ := fetchInstr_of_decode hbytes
  obtain hn : n + 1 = 3 - rest.length := by omega
  rw [step_of_fetch hnext, hinstr, hafter, hn]
  rfl

/-- The EI delay moves the two bits where an EI is pending on both sides, and nothing where not (R612). -/
theorem finishInstr_of_pending {s : State} (h : s.cpu.eiPending = true) :
    finishInstr true s = { s with cpu := { s.cpu with ime := true, eiPending := false } } := by
  simp only [finishInstr, h, Bool.and_self, if_true]

theorem finishInstr_of_not_pending {pend : Bool} {s : State} (h : pend = false ∨ s.cpu.eiPending = false) :
    finishInstr pend s = s := by
  rcases h with h | h <;> simp only [finishInstr, h, Bool.and_false, Bool.false_and, Bool.false_eq_true, if_false]

/-- Settles O36: the device window leaves the two bits as the EI delay set them. -/
theorem eiDelay : Obligations.EiDelay := by
  unfold Obligations.EiDelay
  intro s t hnext hexec
  refine ⟨_, (step_of_fetch hnext).trans (congrArg (finishExec s) hexec), fun hbefore hafter => ?_, fun hnone => ?_⟩
  · rw [hbefore, finishInstr_of_pending hafter, finishStep_cpu]
    exact ⟨rfl, rfl⟩
  · rw [finishInstr_of_not_pending hnone, finishStep_cpu]
    exact ⟨rfl, rfl⟩

/-! The fault. -/

theorem nextAction_of_fault {s : State} {op : Byte} {cb : Bool} (h : s.cpu.fault = some (op, cb)) :
    nextAction s = .faulted op cb := by
  simp only [nextAction, h]

theorem runStep_of_fault {s : State} {op : Byte} {cb : Bool} (h : step s = .fault (.unknownInstruction op cb)) :
    runStep s = (.fault (.unknownInstruction op cb), recordFault s op cb) := by
  simp only [runStep, h]

/-- An illegal opcode at pc is what the fetch decodes, whatever the bytes after it (R486). -/
theorem fetchInstr_illegal {s : State} {op : IllegalOp} (h : memRead s s.cpu.pc = op.code) :
    (fetchInstr s).1 = Instr.illegal op := by
  have hencode : encode (Instr.illegal op) = [op.code] := (illegalStops op s).1
  have hdecode := decodeEncodeAll (Instr.illegal op) (by cases op <;> nofun)
    [(fetch8 (afterFetches 1 s)).1, (fetch8 (afterFetches 2 s)).1]
  rw [hencode, ← h] at hdecode
  obtain ⟨n, -, hinstr⟩ := fetchInstr_of_decode hdecode
  rw [hinstr]

/-- Settles O38: an illegal opcode faults in the step that fetches it, and a recorded fault in every step. -/
theorem faultTerminal : Obligations.FaultTerminal := by
  unfold Obligations.FaultTerminal
  intro s op k cb
  refine ⟨fun hnext hop => ?_, fun hfault => ?_⟩
  · refine runStep_of_fault ?_
    rw [step_of_fetch hnext, fetchInstr_illegal ((memRead_beginStep s s.cpu.pc).trans hop), exec_illegal]
    rfl
  · rw [runStep_of_fault (step_of_faulted (nextAction_of_fault hfault)), recordFault, ← hfault]

/-! Halted and stopped steps. -/

theorem nextAction_of_stopped {s : State} (hf : s.cpu.fault = none) (h : s.cpu.stopped = true) :
    nextAction s = .stopped := by
  simp only [nextAction, hf, h, if_true]

theorem nextAction_of_halted {s : State} (hf : s.cpu.fault = none) (hs : s.cpu.stopped = false)
    (hh : s.cpu.halted = true) (hi : s.cpu.ime = false ∨ pendingIrq s = 0) : nextAction s = .halted := by
  have hquiet : (s.cpu.ime && decide (pendingIrq s ≠ 0)) = false := by
    rcases hi with hi | hi <;> simp [hi]
  simp only [nextAction, hf, hs, hquiet, hh, Bool.false_eq_true, if_false, if_true]

/-- A halted step wakes where an enabled interrupt is requested, and costs 4 (R613). -/
theorem haltedStep_eq {s : State} (h : s.cpu.halted = true) :
    haltedStep s = { s with cpu := { s.cpu with halted := decide (pendingIrq s = 0) }, cost := s.cost + 4 } := by
  unfold haltedStep
  by_cases hp : pendingIrq s = 0
  · simp only [hp, ne_eq, not_true_eq_false, if_false, decide_true, ← h]
    rfl
  · simp only [hp, ne_eq, not_false_eq_true, if_true, decide_false]
    rfl

/-- The low half of P1 is the lines (R51). -/
theorem p1Read_low_eq_iff (j : Joypad) : p1Read j &&& 0x0F = 0x0F ↔ p1Lines j = 0xF := by
  unfold p1Read
  generalize p1Lines j = lines
  generalize j.select = select
  revert lines select
  decide

/-- A stopped step wakes where a P1 line reads 0, and costs and counts 4 (R614). -/
theorem stoppedStep_eq {s : State} (h : s.cpu.stopped = true) :
    stoppedStep s =
      { s with
        cpu :=
          { s.cpu with
            stopped := decide (p1Read s.joypad &&& 0x0F = 0x0F), cycleCount := s.cpu.cycleCount + 4 }
        cost := s.cost + 4 } := by
  unfold stoppedStep
  simp only [p1Read_low_eq_iff]
  by_cases hp : p1Lines s.joypad = 0xF
  · simp only [hp, ne_eq, not_true_eq_false, if_false, decide_true, ← h]
    rfl
  · simp only [hp, ne_eq, not_false_eq_true, if_true, decide_false]
    rfl

/-- Settles O37: both move the CPU alone. -/
theorem idleSteps : Obligations.IdleSteps := by
  unfold Obligations.IdleSteps
  intro s hf
  refine ⟨fun hs hh hi => ⟨_, step_of_halted (nextAction_of_halted hf hs hh hi), ?_⟩,
    fun hs => ⟨_, step_of_stopped (nextAction_of_stopped hf hs), ?_⟩⟩
  · rw [haltedStep_eq (s := beginStep s) hh]
    exact ⟨rfl, sameWorld_cpu _ _ _, rfl⟩
  · rw [stoppedStep_eq (s := beginStep s) hs]
    exact ⟨rfl, sameWorld_cpu _ _ _, rfl⟩

/-! The dispatch of an interrupt. -/

theorem nextAction_of_pending {s : State} (hf : s.cpu.fault = none) (hs : s.cpu.stopped = false)
    (hi : s.cpu.ime = true) (hp : pendingIrq s ≠ 0) : nextAction s = .dispatch := by
  simp only [nextAction, hf, hs, hi, hp, ne_eq, not_false_eq_true, decide_true, Bool.and_self, Bool.false_eq_true,
    if_false, if_true]

theorem pendingIrq_getLsbD (s : State) {k : Nat} (hk : k < 5) :
    (pendingIrq s).getLsbD k = (s.irq.enable.getLsbD k && s.irq.flag.getLsbD k) := by
  simp only [pendingIrq, BitVec.getLsbD_and, BitVec.getLsbD_setWidth, hk, decide_true, Bool.true_and]

/-- The test of the bits in rising order finds the one with none set below it (R603, R604). -/
theorem lowestBit_eq {p : BitVec 5} {i : Nat} (hi : i < 5) (hset : p.getLsbD i = true)
    (hlow : ∀ j, j < i → p.getLsbD j = false) : lowestBit p = i := by
  unfold lowestBit
  have hclear (j : Nat) (hj : j < i) : ¬p.getLsbD j = true := Bool.eq_false_iff.mp (hlow j hj)
  match i with
  | 0 => rw [if_pos hset]
  | 1 => rw [if_neg (hclear 0 (by decide)), if_pos hset]
  | 2 => rw [if_neg (hclear 0 (by decide)), if_neg (hclear 1 (by decide)), if_pos hset]
  | 3 =>
    rw [if_neg (hclear 0 (by decide)), if_neg (hclear 1 (by decide)), if_neg (hclear 2 (by decide)), if_pos hset]
  | 4 =>
    rw [if_neg (hclear 0 (by decide)), if_neg (hclear 1 (by decide)), if_neg (hclear 2 (by decide)),
      if_neg (hclear 3 (by decide))]

theorem vectorOf_eq_ofNat (i : Nat) : vectorOf i = BitVec.ofNat 16 (0x40 + 8 * i) := (BitVec.ofNat_add _ _).symm

/-- A dispatch is a push after the acknowledge and then a jump, at 20 T-cycles (R603, log 33). -/
theorem dispatchInterrupt_eq {s : State} {i : Nat} (hi : lowestBit (pendingIrq s) = i) :
    dispatchInterrupt s =
      { setPc (push16 (acknowledge s i) (returnAddress s)) (vectorOf i) with cost := s.cost + 20 } := by
  rw [← hi]
  rfl

/-- Settles O35: the interrupt taken is the lowest pending bit, and its dispatch pushes the return address. -/
theorem interruptDispatch : Obligations.InterruptDispatch := by
  unfold Obligations.InterruptDispatch
  intro s i hf hs hime hi hen hreq hnone ret b
  have hbit : (pendingIrq s).getLsbD i = true := (pendingIrq_getLsbD s hi).trans (Bool.and_eq_true_iff.mpr ⟨hen, hreq⟩)
  have hlow (j : Nat) (hj : j < i) : (pendingIrq s).getLsbD j = false := by
    rw [pendingIrq_getLsbD s (Nat.lt_trans hj hi)]
    exact Bool.eq_false_iff.mpr fun h => hnone j hj (Bool.and_eq_true_iff.mp h)
  have hpending : pendingIrq s ≠ 0 := (pendingIrq_ne_zero_iff s).mpr ⟨i, hi, hen, hreq⟩
  refine ⟨_, step_of_dispatch (nextAction_of_pending hf hs hime hpending), ?_⟩
  rw [dispatchInterrupt_eq (s := beginStep s) (lowestBit_eq hi hbit hlow)]
  refine ⟨?_, sameWorld_cpu (push16 b ret) _ _, ?_, rfl⟩
  · rw [setPc, vectorOf_eq_ofNat, push16_cpu]
    rfl
  · exact storeFrame2_cpu b (push16 b ret) _ _ _ _ _ _ rfl (storeFrame2_push16 b ret)

end Sys2Proof.Machine
end

