-- ==== Sys2Proof/Proofs/StepCost.lean ====
section
/-! The cost of a step (O39, R610, R820). The cycle count moves only at the end of a step, by the cost; and a step's own
moves spend whole M-cycles, so only the cost of a general-purpose DMA could break them. -/

namespace Sys2Proof.Machine

/-! The cycle count. -/

/-- No move of an instruction changes the cycle count. -/
theorem execClosed_cycleCount (n : Nat) : ExecClosed fun s => s.cpu.cycleCount = n where
  cpu _ _ _ _ _ hc _ h := hc.trans h
  write s a v h := (congrArg Cpu.cycleCount (memWrite_cpu s a v)).trans h
  divider s h := (congrArg Cpu.cycleCount (setDivider_cpu s 0)).trans h
  armed _ _ h := h

theorem finishStep_counts (fast : Bool) {s : State} {n : Nat} (h : s.cpu.cycleCount = n) :
    (finishStep fast s).cpu.cycleCount = n + (finishStep fast s).cost := by
  rw [finishStep_cpu, finishStep_cost, ← h]

theorem step_counts_cost {s t : State} (h : step s = .next t) : t.cpu.cycleCount = s.cpu.cycleCount + t.cost := by
  cases ha : nextAction s with
  | faulted op cb =>
    rw [step_of_faulted ha] at h
    cases h
  | stopped =>
    rw [step_of_stopped ha] at h
    cases h
    unfold stoppedStep
    dsimp only
    split <;> rfl
  | dispatch =>
    rw [step_of_dispatch ha] at h
    cases h
    refine finishStep_counts _ ?_
    rw [dispatchInterrupt_cpu]
    rfl
  | halted =>
    rw [step_of_halted ha] at h
    cases h
    refine finishStep_counts _ ?_
    unfold haltedStep
    split <;> rfl
  | fetch =>
    rw [step_of_fetch ha] at h
    have C := execClosed_cycleCount s.cpu.cycleCount
    have hfetched : (fetchInstr (beginStep s)).2.cpu.cycleCount = s.cpu.cycleCount :=
      C.fetchInstr (s := beginStep s) rfl
    cases he : exec (fetchInstr (beginStep s)).1 (fetchInstr (beginStep s)).2 with
    | next u =>
      rw [he] at h
      cases h
      exact finishStep_counts _ (C.finishInstr _ (exec_keeps C hfetched he))
    | fault r =>
      rw [he] at h
      cases h
    | refused r =>
      rw [he] at h
      cases h

/-! Whole M-cycles. -/

/-- The parameters are as given, and the cost so far is a whole number of M-cycles. -/
def WholeCost (p : Params) (s : State) : Prop := s.params = p ∧ s.cost % 4 = 0

section WholeCost

variable {p : Params} (hp : ∀ c ∈ p.gdmaCycles, c % 4 = 0)

include hp

theorem gdmaCost_whole (n : Nat) : gdmaCost p n % 4 = 0 := by
  unfold gdmaCost
  rw [List.getD_eq_getElem?_getD]
  cases hc : p.gdmaCycles[n - 1]? with
  | none => rfl
  | some c => exact hp c (List.mem_of_getElem? hc)

/-- A write to HDMA5 adds the cost of a general-purpose transfer at most (R186, R189). -/
theorem wholeCost_hdma5Write {s : State} (v : Byte) (h : WholeCost p s) : WholeCost p (hdma5Write s v) := by
  obtain ⟨rfl, hc⟩ := h
  refine ⟨hdma5Write_params s v, ?_⟩
  unfold hdma5Write
  split
  · exact hc
  · split
    · exact hc
    · rw [gdmaRun, spend_cost, hdmaBlocks_cost, Nat.add_mod, hc, gdmaCost_whole hp]

theorem wholeCost_ioRegWrite {s : State} (r : IoReg) (v : Byte) (h : WholeCost p s) :
    WholeCost p (ioRegWrite s r v) := by
  cases r
  case hdma5 => exact wholeCost_hdma5Write hp v h
  all_goals
    obtain ⟨hparams, hc⟩ := h
    refine ⟨(ioRegWrite_params ..).trans hparams, ?_⟩
    simp only [ioRegWrite, p1Write_cost, scWrite_cost, setDivider_cost, tacWrite_cost, lcdcWrite_cost, statWrite_cost,
      lycWrite_cost, dmaWrite_cost, poke_cost, bcpdWrite, ocpdWrite]
    exact hc

theorem wholeCost_memWrite (s : State) (a : Word) (v : Byte) (h : WholeCost p s) : WholeCost p (memWrite s a v) := by
  obtain hsame | ⟨r, hr⟩ := memWrite_cases s a v
  · obtain ⟨hparams, hc⟩ := h
    exact ⟨(memWrite_params s a v).trans hparams, hsame.cost ▸ hc⟩
  · exact hr ▸ wholeCost_ioRegWrite hp r v h

/-- Every move of a step spends whole M-cycles. -/
theorem wholeCost_stepClosed : StepClosed (WholeCost p) where
  cpu s _ k m _ _ hk := fun ⟨hparams, hc⟩ => ⟨hparams, show k % 4 = 0 by omega⟩
  write := wholeCost_memWrite hp
  divider s h := by simpa [WholeCost] using h
  armed _ _ h := h
  fresh _ _ := fun ⟨hparams, _⟩ => ⟨hparams, rfl⟩
  flag _ _ h := h
  dispatchCost s _ := fun ⟨_, hc⟩ ⟨hparams, _⟩ => ⟨hparams, show (s.cost + 20) % 4 = 0 by omega⟩
  device s fast k h := by simpa [WholeCost] using h
  count _ _ h := h

end WholeCost

/-- Settles O39: the window at the end of a step counts the cost, which starts at 0 and grows by whole M-cycles. -/
theorem stepCost : Obligations.StepCost := by
  unfold Obligations.StepCost
  intro s t h
  refine ⟨step_counts_cost h, fun hp => ?_⟩
  have hfresh : step { s with cost := 0 } = .next t := h
  exact (step_keeps (wholeCost_stepClosed hp) (s := { s with cost := 0 }) ⟨rfl, rfl⟩ hfresh).2

end Sys2Proof.Machine
end

