-- ==== Sys2Proof/Proofs/TimerUnit.lean ====
section
/-! The divider and timer (O54, R611, R620-R622). Every T-cycle of the devices sets the divider to its next value, and
setting it looks for the edge of the timer's signal. -/

namespace Sys2Proof.Machine

/-- The increment of TIMA, and its overflow (R622). -/
theorem timaIncrement_effect (s : State) :
    (s.timer.tima = 0xFF → (timaIncrement s).timer.tima = s.timer.tma
        ∧ (timaIncrement s).irq.flag = s.irq.flag ||| 0b00100)
      ∧ (s.timer.tima ≠ 0xFF → (timaIncrement s).timer.tima = s.timer.tima + 1 ∧ (timaIncrement s).irq = s.irq) := by
  unfold timaIncrement
  refine ⟨fun h => ?_, fun h => ?_⟩
  · rw [if_pos h]
    exact ⟨rfl, rfl⟩
  · rw [if_neg h]
    exact ⟨rfl, rfl⟩

section SetDivider

variable (s : State) (v : BitVec 16)

/-- The signal recorded is that of the divider as set (R621). -/
theorem setDivider_signal :
    (setDivider s v).timer.signal = timerClock { s.timer with divCounter := v } := rfl

variable {s v}

/-- Where the signal falls TIMA counts (R621). -/
theorem setDivider_of_fall (hs : s.timer.signal = true) (ht : (setDivider s v).timer.signal = false) :
    (s.timer.tima = 0xFF → (setDivider s v).timer.tima = s.timer.tma
        ∧ (setDivider s v).irq.flag = s.irq.flag ||| 0b00100)
      ∧ (s.timer.tima ≠ 0xFF → (setDivider s v).timer.tima = s.timer.tima + 1 ∧ (setDivider s v).irq = s.irq) := by
  rw [setDivider_signal] at ht
  have hfall : (s.timer.signal && !timerClock { s.timer with divCounter := v }) = true := by rw [hs, ht]; rfl
  unfold setDivider timerEdgeCheck
  dsimp only
  rw [if_pos hfall]
  exact timaIncrement_effect { s with timer := { s.timer with divCounter := v } }

/-- Where it does not, TIMA and the requests stay (R621). -/
theorem setDivider_of_no_fall (h : ¬(s.timer.signal = true ∧ (setDivider s v).timer.signal = false)) :
    (setDivider s v).timer.tima = s.timer.tima ∧ (setDivider s v).irq = s.irq := by
  cases hs : s.timer.signal with
  | false => exact setDivider_of_signal_low s v hs
  | true =>
    have ht : timerClock { s.timer with divCounter := v } = true := by
      rw [← setDivider_signal]
      exact Bool.of_not_eq_false fun hf => h ⟨hs, hf⟩
    unfold setDivider timerEdgeCheck
    dsimp only
    rw [ht, Bool.not_true, Bool.and_false, if_neg Bool.false_ne_true]
    exact ⟨rfl, rfl⟩

end SetDivider

/-- A T-cycle of the devices counts the divider, whatever else moves (R611, R620). -/
theorem deviceTick_divCounter (fast : Bool) (k : Nat) (s : State) :
    (deviceTick fast k s).timer.divCounter = s.timer.divCounter + 1 := by
  have htick : (timerTick s).timer.divCounter = s.timer.divCounter + 1 := (setDivider_timer s _).1
  unfold deviceTick
  dsimp only
  split <;> simpa using htick

theorem deviceTicks_divCounter (fast : Bool) (n k : Nat) (s : State) :
    (deviceTicks fast n k s).timer.divCounter = s.timer.divCounter + BitVec.ofNat 16 n := by
  induction n generalizing k s with
  | zero => exact (BitVec.add_zero _).symm
  | succ n ih =>
    rw [deviceTicks, ih, deviceTick_divCounter, BitVec.add_assoc, Nat.add_comm n 1, BitVec.ofNat_add]
    rfl

/-- Settles O54: a tick sets the divider to the next value, and the setting looks for the edge. -/
theorem timerTickSpec : Obligations.TimerTick := by
  unfold Obligations.TimerTick
  intro s fast n t
  obtain ⟨hdiv, htma, htac⟩ := setDivider_timer s (s.timer.divCounter + 1)
  exact ⟨deviceTicks_divCounter fast n 0 s, hdiv, htma, htac, rfl, fun ⟨hs, ht⟩ => setDivider_of_fall hs ht,
    setDivider_of_no_fall⟩

end Sys2Proof.Machine
end

