-- ==== Sys2Proof/Proofs/SerialTransfer.lean ====
section
/-! A serial transfer with no partner (O55, R635). Eight times, 511 T-cycles only count and the next one shifts a 1
in. -/

namespace Sys2Proof.Machine

/-- The port of `s` while it sends: bits shifted so far, what SB holds by then, and the T-cycles since the last bit. -/
def sending (s : State) (bits : Nat) (sb : Byte) (acc : Nat) : State :=
  { s with serial := { s.serial with active := true, bits := bits, sb := sb, acc := acc } }

/-- The port of `s` once the eighth bit is in (R635). -/
def sent (s : State) (sb : Byte) : State :=
  request
    { s with
      serial := { s.serial with active := false, bits := 8, sb := sb, acc := 0, sc := s.serial.sc &&& 0x7F } } 3

/-- SB with a 1 shifted in, as the unconnected line gives it (R635). -/
def shiftInOne (sb : Byte) : Byte := (sb <<< 1) ||| 1

/-- SB with n 1s shifted in. -/
def shiftInOnes : Nat → Byte → Byte
  | 0, sb => sb
  | n + 1, sb => shiftInOne (shiftInOnes n sb)

theorem shiftInOnes_eight : ∀ sb : Byte, shiftInOnes 8 sb = 0xFF := by
  decide +kernel

/-- The serial port's part of n T-cycles (R635). -/
def serialTicks : Nat → State → State
  | 0, s => s
  | n + 1, s => serialTick (serialTicks n s)

theorem serialTicks_add (m n : Nat) (s : State) : serialTicks (m + n) s = serialTicks n (serialTicks m s) := by
  induction n with
  | zero => rfl
  | succ n ih => exact congrArg serialTick ih

theorem foldl_serialTick (n : Nat) (s : State) :
    (List.range n).foldl (fun u _ => serialTick u) s = serialTicks n s := by
  induction n with
  | zero => rfl
  | succ n ih =>
    rw [List.range_succ, List.foldl_append, ih]
    rfl

section Sending

variable {s : State} (hm : cgbMode s = false)

include hm

/-- One T-cycle of a transfer: it counts, or shifts a bit in, which may be the last (R635). -/
theorem serialTick_sending (bits : Nat) (sb : Byte) (acc : Nat) :
    serialTick (sending s bits sb acc) =
      if acc + 1 = 512 then
        if bits + 1 = 8 then sent s (shiftInOne sb) else sending s (bits + 1) (shiftInOne sb) 0
      else sending s bits sb (acc + 1) := by
  have hperiod : serialPeriod (sending s bits sb acc) = 512 := by
    have hmode : cgbMode (sending s bits sb acc) = false := hm
    rw [serialPeriod, hmode]
    rfl
  unfold serialTick
  rw [hperiod]
  change (if acc + 1 = 512 then _ else _) = _
  split
  · change (if bits + 1 = 8 then _ else _) = _
    split
    next hbits =>
      obtain rfl : bits = 7 := by omega
      rfl
    next => rfl
  · rfl

/-- Up to 511 T-cycles only count. -/
theorem serialTicks_waiting (bits : Nat) (sb : Byte) {n : Nat} (hn : n < 512) :
    serialTicks n (sending s bits sb 0) = sending s bits sb n := by
  induction n with
  | zero => rfl
  | succ n ih => rw [serialTicks, ih (by omega), serialTick_sending hm, if_neg (by omega)]

/-- 512 T-cycles shift one bit in. -/
theorem serialTicks_bit (bits : Nat) (sb : Byte) :
    serialTicks 512 (sending s bits sb 0) =
      if bits + 1 = 8 then sent s (shiftInOne sb) else sending s (bits + 1) (shiftInOne sb) 0 := by
  rw [serialTicks, serialTicks_waiting hm bits sb (by decide), serialTick_sending hm, if_pos rfl]

theorem serialTicks_bits (sb : Byte) {k : Nat} (hk : k < 8) :
    serialTicks (512 * k) (sending s 0 sb 0) = sending s k (shiftInOnes k sb) 0 := by
  induction k with
  | zero => rfl
  | succ k ih =>
    rw [Nat.mul_succ, serialTicks_add, ih (by omega), serialTicks_bit hm, if_neg (by omega)]
    rfl

theorem serialTicks_transfer (sb : Byte) : serialTicks (512 * 7 + 512) (sending s 0 sb 0) = sent s 0xFF := by
  rw [serialTicks_add, serialTicks_bits hm sb (by decide), serialTicks_bit hm, if_pos rfl]
  exact congrArg (sent s) (shiftInOnes_eight sb)

/-- A write to SC that starts a transfer with the internal clock leaves bits 7 and 0 alone in SC (R55, R635). -/
theorem scWrite_starts {v : Byte} (h7 : v.getLsbD 7 = true) (h0 : v.getLsbD 0 = true) :
    scWrite s v = sending { s with serial := { s.serial with sc := 0x81 } } 0 s.serial.sb 0 := by
  have hsc : v &&& scMask (cgbMode s) = 0x81 := by
    rw [hm]
    revert v
    decide +kernel
  unfold scWrite
  dsimp only
  rw [hsc, h7, h0]
  rfl

end Sending

/-- Settles O55: the transfer is eight bits of 512 T-cycles each. -/
theorem serialTransfer : Obligations.SerialTransfer := by
  unfold Obligations.SerialTransfer
  intro s v hm h7 h0 t
  have hsent (u : State) (hu : cgbMode u = false) :
      (List.range 4096).foldl (fun u _ => serialTick u) (sending u 0 s.serial.sb 0) = sent u 0xFF := by
    rw [foldl_serialTick]
    exact serialTicks_transfer hu _
  have ht : t = sent { s with serial := { s.serial with sc := 0x81 } } 0xFF := by
    unfold t
    rw [scWrite_starts hm h7 h0]
    exact hsent _ hm
  rw [ht]
  exact ⟨rfl, rfl, (by decide : (0x81 : Byte) &&& 0x7F = 0x01), rfl⟩

end Sys2Proof.Machine
end

