-- ==== Sys2Proof/Proofs/Joypad.lean ====
section
/-! The joypad (O56, R51, R630, R631): a button changes the lines of its own group, where that is selected, and the
check after the change requests the interrupt where a line falls. -/

namespace Sys2Proof.Machine

/-- Some line falls from `p` to `q`. -/
def LineFalls (p q : BitVec 4) : Prop := ∃ j, j < 4 ∧ p.getLsbD j = true ∧ q.getLsbD j = false

/-- The test of the joypad check is that no line falls (R630). -/
theorem and_not_eq_zero_iff (p q : BitVec 4) : p &&& ~~~q = 0 ↔ ¬LineFalls p q := by
  have hbit (j : Nat) (hj : j < 4) : (p &&& ~~~q).getLsbD j = (p.getLsbD j && !q.getLsbD j) := by
    simp only [BitVec.getLsbD_and, BitVec.getLsbD_not, hj, decide_true, Bool.true_and]
  constructor
  · rintro hzero ⟨j, hj, hp, hq⟩
    have hset := hbit j hj
    rw [hzero, hp, hq] at hset
    exact absurd (BitVec.getLsbD_zero.symm.trans hset) nofun
  · intro hnone
    refine BitVec.eq_of_getLsbD_eq fun j hj => (hbit j hj).trans (.trans ?_ BitVec.getLsbD_zero.symm)
    cases hp : p.getLsbD j with
    | false => rfl
    | true =>
      have hq : q.getLsbD j = true := Bool.of_not_eq_false fun hq => hnone ⟨j, hj, hp, hq⟩
      rw [hq]
      rfl

/-- The check records the lines, and requests interrupt 4 where one falls (R630). -/
theorem joypadCheck_joypad (s : State) :
    (joypadCheck s).joypad = { s.joypad with lines := p1Lines s.joypad } := by
  unfold joypadCheck
  dsimp only
  split <;> rfl

theorem joypadCheck_of_fall {s : State} (h : LineFalls s.joypad.lines (p1Lines s.joypad)) :
    (joypadCheck s).irq = { s.irq with flag := s.irq.flag ||| 0b10000 } := by
  unfold joypadCheck
  dsimp only
  rw [if_neg fun hzero => (and_not_eq_zero_iff _ _).mp hzero h]
  rfl

theorem joypadCheck_of_no_fall {s : State} (h : ¬LineFalls s.joypad.lines (p1Lines s.joypad)) :
    (joypadCheck s).irq = s.irq := by
  unfold joypadCheck
  dsimp only
  rw [if_pos ((and_not_eq_zero_iff _ _).mpr h)]

theorem not_lineFalls_self (p : BitVec 4) : ¬LineFalls p p := fun ⟨_, _, h1, h0⟩ => absurd (h1.symm.trans h0) nofun

/-! Which lines a button moves (R51). -/

/-- A direction leaves the action buttons, and an action button the directions. -/
theorem actionMask_pressButton (b : Buttons) {k : Button} (pressed : Bool)
    (hk : k = .right ∨ k = .left ∨ k = .up ∨ k = .down) : actionMask (pressButton b k pressed) = actionMask b := by
  obtain rfl | rfl | rfl | rfl := hk <;> rfl

theorem dpadMask_pressButton (b : Buttons) {k : Button} (pressed : Bool)
    (hk : k = .a ∨ k = .b ∨ k = .select ∨ k = .start) : dpadMask (pressButton b k pressed) = dpadMask b := by
  obtain rfl | rfl | rfl | rfl := hk <;> rfl

section Lines

variable (j : Joypad) (b : Buttons)

theorem p1Lines_of_dpad_off (h : j.select.getLsbD 0 = true) (hb : actionMask b = actionMask j.buttons) :
    p1Lines { j with buttons := b } = p1Lines j := by
  simp only [p1Lines, h, hb, if_true]

theorem p1Lines_of_action_off (h : j.select.getLsbD 1 = true) (hb : dpadMask b = dpadMask j.buttons) :
    p1Lines { j with buttons := b } = p1Lines j := by
  simp only [p1Lines, h, hb, if_true]

theorem p1Lines_of_none_selected (h : j.select = 0b11) : p1Lines j = 0xF := by
  simp [p1Lines, h]

end Lines

/-- A button whose lines stay changes no line and no request. -/
theorem setButton_of_same_lines {s : State} {k : Button} {pressed : Bool} (hlines : s.joypad.lines = p1Lines s.joypad)
    (h : p1Lines { s.joypad with buttons := pressButton s.joypad.buttons k pressed } = p1Lines s.joypad) :
    (setButton s k pressed).joypad.lines = s.joypad.lines ∧ (setButton s k pressed).irq = s.irq := by
  unfold setButton
  refine ⟨?_, joypadCheck_of_no_fall ?_⟩
  · rw [joypadCheck_joypad]
    exact h.trans hlines.symm
  · dsimp only
    rw [h, hlines]
    exact not_lineFalls_self _

/-- Settles O56: the check compares the recorded lines with the lines of the changed buttons. -/
theorem joypadEdge : Obligations.JoypadEdge := by
  unfold Obligations.JoypadEdge
  intro s k pressed hlines t
  have hjoypad : t.joypad = _ := joypadCheck_joypad _
  have hfall (h : LineFalls s.joypad.lines t.joypad.lines) : t.irq = { s.irq with flag := s.irq.flag ||| 0b10000 } :=
    joypadCheck_of_fall (by rwa [hjoypad] at h)
  have hnofall (h : ¬LineFalls s.joypad.lines t.joypad.lines) : t.irq = s.irq :=
    joypadCheck_of_no_fall (by rwa [hjoypad] at h)
  refine ⟨by rw [hjoypad], by rw [hjoypad]; rfl, by rw [hjoypad], ?_, fun h => by rw [hfall h], fun h => hnofall ?_,
    fun hsel hk => setButton_of_same_lines hlines (p1Lines_of_dpad_off _ _ hsel (actionMask_pressButton _ _ hk)),
    fun hsel hk => setButton_of_same_lines hlines (p1Lines_of_action_off _ _ hsel (dpadMask_pressButton _ _ hk)),
    fun hsel => by rw [hjoypad]; exact p1Lines_of_none_selected _ hsel⟩
  · by_cases h : LineFalls s.joypad.lines t.joypad.lines
    · rw [hfall h]
    · rw [hnofall h]
  · rintro ⟨j, hj, hup, hdown⟩
    exact absurd ((h j hj hup).symm.trans hdown) nofun

end Sys2Proof.Machine
end

