-- ==== Sys2Proof/Proofs/SpriteSelection.lean ====
section
/-! Sprite selection (O58, R645): the first ten of the sprites that cover the line, in OAM order. -/

namespace Sys2Proof.Machine

/-- Of a strictly rising list, what the first n leave out stands behind n that are less. -/
theorem lt_of_mem_of_notMem_take {l : List Nat} (hl : l.Pairwise (· < ·)) {n i : Nat} (hi : i ∈ l) (hn : i ∉ l.take n) :
    (l.take n).length = n ∧ ∀ j ∈ l.take n, j < i := by
  rw [← List.take_append_drop n l] at hi hl
  have hdrop : i ∈ l.drop n := (List.mem_append.mp hi).resolve_left hn
  refine ⟨List.length_take_of_le ?_, fun j hj => (List.pairwise_append.mp hl).2.2 j hj i hdrop⟩
  have := List.length_pos_of_mem hdrop
  rw [List.length_drop] at this
  omega

/-- The sprites that cover the line by their Y, in OAM order (R645). -/
def coveringSprites (s : State) : List Nat := (List.range 40).filter (spriteOnLine s (objHeight s.ppu.lcdc))

theorem mem_coveringSprites (s : State) (i : Nat) :
    i ∈ coveringSprites s ↔ i < 40 ∧ (peek s .oam (4 * i)).toNat ≤ s.ppu.ly + 16
      ∧ s.ppu.ly + 16 < (peek s .oam (4 * i)).toNat + objHeight s.ppu.lcdc := by
  simp only [coveringSprites, List.mem_filter, List.mem_range]
  unfold spriteOnLine oamByte
  rw [Bool.and_eq_true, decide_eq_true_eq, decide_eq_true_eq]
  rfl

theorem coveringSprites_rising (s : State) : (coveringSprites s).Pairwise (· < ·) :=
  List.pairwise_lt_range.filter _

/-- Settles O58: the selection is the first ten of the covering sprites. -/
theorem spriteSelection : Obligations.SpriteSelection := by
  unfold Obligations.SpriteSelection
  intro s h covers l
  have hmem (i : Nat) : i ∈ coveringSprites s ↔ i < 40 ∧ covers i := mem_coveringSprites s i
  have hsub := List.take_sublist 10 (coveringSprites s)
  refine ⟨List.length_take_le 10 _, (coveringSprites_rising s).sublist hsub, fun i hi => (hmem i).mp (hsub.mem hi),
    fun i hi hc hout => lt_of_mem_of_notMem_take (coveringSprites_rising s) ((hmem i).mpr ⟨hi, hc⟩) hout⟩

end Sys2Proof.Machine
end

