-- ==== Sys2Proof/Proofs/ApuPower.lean ====
section
/-! APU power off (O59, R681, R683, R685). What the sound registers read while off depends on no state, so the read
masks are checked on one machine; and their writes need the power. -/

namespace Sys2Proof.Machine

/-! IO addresses below the PPU's registers, which nothing locks out (R109). -/

theorem lockedOut_io (s : State) {a : Word} (h : 0xFF00 ≤ a.toNat) (h' : a.toNat < 0xFF40) : lockedOut s a = false :=
  lockedOut_outside s (by omega) (by omega) ⟨by rintro rfl; simp at h', by rintro rfl; simp at h'⟩

theorem memRead_io (s : State) {a : Word} (h : 0xFF00 ≤ a.toNat) (h' : a.toNat < 0xFF40) :
    memRead s a = ioRead s (a.toNat - 0xFF00) := by
  rw [memRead_of_unlocked (lockedOut_io s h h'), memReadNoLock, route_io s a h (by omega)]

theorem memWrite_io (s : State) {a : Word} (v : Byte) (h : 0xFF00 ≤ a.toNat) (h' : a.toNat < 0xFF40) :
    memWrite s a v = ioWrite s (a.toNat - 0xFF00) v := by
  rw [memWrite_of_unlocked v (lockedOut_io s h h'), route_io s a h (by omega), targetWrite]

theorem ioWrite_of_ioReg {s : State} {n : Nat} {r : IoReg} (v : Byte) (h : ioReg (cgbMode s) n = some r) :
    ioWrite s n v = ioRegWrite s r v := by
  simp only [ioWrite, h]

theorem ioRead_of_ioReg_none {s : State} {n : Nat} (h : ioReg (cgbMode s) n = none) : ioRead s n = 0xFF := by
  simp only [ioRead, h]

theorem ioWrite_of_ioReg_none {s : State} {n : Nat} (v : Byte) (h : ioReg (cgbMode s) n = none) :
    ioWrite s n v = s := by
  simp only [ioWrite, h]

theorem nr52_offset : (0xFF26 : Word).toNat - 0xFF00 = 0x26 := by
  decide

theorem ioReg_nr52 (cgb : Bool) : ioReg cgb 0x26 = some .nr52 := by
  cases cgb <;> rfl

/-- The sound registers that need the power: those of R64-R68 but NR52 (R685). -/
def IoReg.isPowered (r : IoReg) : Bool := ioTableApu.any (fun row => decide (row.2 = r)) && decide (r ≠ .nr52)

/-- 0xFF10-0xFF25 name those registers, the same in each mode, or none (R64-R69). -/
theorem ioReg_powered :
    ∀ n < 0x26, 0x10 ≤ n → ∀ cgb : Bool, ioReg cgb n = ioReg false n ∧ (ioReg cgb n).all IoReg.isPowered = true := by
  decide +kernel

/-- The machine with the APU switched off. -/
def withApuOff (s : State) : State := { s with apu := apuPowerOff s.apu }

theorem memWrite_nr52_off {s : State} {v : Byte} (hp : s.apu.power = true) (hv : v.getLsbD 7 = false) :
    memWrite s 0xFF26 v = withApuOff s := by
  have hoff : nr52Write s.apu v = apuPowerOff s.apu := by rw [nr52Write, hp, hv]
  rw [memWrite_io s v (by decide) (by decide), nr52_offset, ioWrite_of_ioReg v (ioReg_nr52 _)]
  exact congrArg (fun u => { s with apu := u }) hoff

/-- While off a sound register reads its mask, whatever the state. -/
theorem ioRegRead_withApuOff (s t : State) {r : IoReg} (hr : r.isPowered = true) :
    ioRegRead (withApuOff s) r = ioRegRead (withApuOff t) r := by
  cases r with
  | nr10 | nr11 | nr12 | nr13 | nr14 | nr21 | nr22 | nr23 | nr24 | nr30 | nr31 | nr32 | nr33 | nr34 | nr41 | nr42 | nr43
  | nr44 | nr50 | nr51 => rfl
  | _ => cases hr

theorem memRead_withApuOff (s t : State) {a : Word} (h : 0xFF10 ≤ a.toNat) (h' : a.toNat < 0xFF26) :
    memRead (withApuOff s) a = memRead (withApuOff t) a := by
  rw [memRead_io _ (by omega) (by omega), memRead_io _ (by omega) (by omega)]
  have hmode := ioReg_powered (a.toNat - 0xFF00) (by omega) (by omega)
  have hs := (hmode (cgbMode (withApuOff s))).1
  have ht := (hmode (cgbMode (withApuOff t))).1
  obtain ⟨-, hall⟩ := hmode false
  cases hr : ioReg false (a.toNat - 0xFF00) with
  | none => rw [ioRead_of_ioReg_none (hs.trans hr), ioRead_of_ioReg_none (ht.trans hr)]
  | some r =>
    rw [hr] at hall
    rw [ioRead_of_ioReg (hs.trans hr), ioRead_of_ioReg (ht.trans hr)]
    exact ioRegRead_withApuOff s t hall

/-- While off a sound register takes no write (R681, R685). -/
theorem ioRegWrite_withApuOff (s : State) {r : IoReg} (v : Byte) (hr : r.isPowered = true) :
    ioRegWrite (withApuOff s) r v = withApuOff s := by
  cases r with
  | nr10 | nr11 | nr12 | nr13 | nr14 | nr21 | nr22 | nr23 | nr24 | nr30 | nr31 | nr32 | nr33 | nr34 | nr41 | nr42 | nr43
  | nr44 | nr50 | nr51 => rfl
  | _ => cases hr

theorem memWrite_withApuOff (s : State) {a : Word} (v : Byte) (h : 0xFF10 ≤ a.toNat) (h' : a.toNat < 0xFF26) :
    memWrite (withApuOff s) a v = withApuOff s := by
  rw [memWrite_io _ v (by omega) (by omega)]
  obtain ⟨-, hall⟩ := ioReg_powered (a.toNat - 0xFF00) (by omega) (by omega) (cgbMode (withApuOff s))
  cases hr : ioReg (cgbMode (withApuOff s)) (a.toNat - 0xFF00) with
  | none => exact ioWrite_of_ioReg_none v hr
  | some r =>
    rw [hr] at hall
    rw [ioWrite_of_ioReg v hr]
    exact ioRegWrite_withApuOff s v hall

theorem nr52Read_apuPowerOff (u : Apu) : nr52Read (apuPowerOff u) = 0x70 := by
  simp [nr52Read, apuPowerOff, bitAt]

theorem memRead_nr52_withApuOff (s : State) : memRead (withApuOff s) 0xFF26 = 0x70 := by
  rw [memRead_io _ (by decide) (by decide), nr52_offset, ioRead_of_ioReg (ioReg_nr52 _)]
  exact nr52Read_apuPowerOff s.apu

/-- Settles O59: switching off is one change of the APU, and the masks are read on the reset machine. -/
theorem apuPower : Obligations.ApuPower := by
  unfold Obligations.ApuPower
  intro s v hp hv t
  have ht : t = withApuOff s := memWrite_nr52_off hp hv
  rw [ht]
  have hmask (a : Word) (m : Byte)
      (h : 0xFF10 ≤ a.toNat ∧ a.toNat < 0xFF26 ∧ memRead (withApuOff State.reset) a = m) :
      memRead (withApuOff s) a = m := by
    obtain ⟨hlo, hhi, hread⟩ := h
    exact (memRead_withApuOff s State.reset hlo hhi).trans hread
  refine ⟨memRead_nr52_withApuOff s, ?_, ?_, ?_, rfl, fun _ => rfl, fun a w => memWrite_withApuOff s w⟩ <;>
    and_intros <;> exact hmask _ _ (by decide +kernel)

end Sys2Proof.Machine
end

