-- ==== Sys2Proof/Proofs/MachineFixed.lean ====
section
/-! What no step changes (O40, R103, R806). The parameters and the cartridge stand in the state as constants, and CPU
writes and the devices reach memory through byte writes outside ROM alone (`PokeClosed`). -/

namespace Sys2Proof.Machine

theorem SameMachine.refl (s : State) : SameMachine s s := ⟨rfl, rfl, rfl⟩

theorem SameMachine.trans {s t u : State} (h : SameMachine s t) (h' : SameMachine t u) : SameMachine s u := by
  obtain ⟨hp, hc, hr⟩ := h
  obtain ⟨hp', hc', hr'⟩ := h'
  exact ⟨hp'.trans hp, hc'.trans hc, hr'.trans hr⟩

theorem sameMachine_memWrite (s : State) (a : Word) (v : Byte) : SameMachine s (memWrite s a v) :=
  ⟨memWrite_params s a v, memWrite_cart s a v, memWrite_rom s a v⟩

theorem sameMachine_setDivider (s : State) (v : BitVec 16) : SameMachine s (setDivider s v) :=
  ⟨setDivider_params s v, setDivider_cart s v, congrArg Memory.rom (setDivider_mem s v)⟩

/-- The devices write VRAM at most, by HDMA. -/
theorem sameMachine_deviceTick (s : State) (fast : Bool) (k : Nat) : SameMachine s (deviceTick fast k s) :=
  ⟨deviceTick_params s fast k, deviceTick_cart s fast k, deviceTick_keeps (pokeClosed_rom s.mem.rom) fast k s rfl⟩

/-- Every move of a step leaves the machine that of the state `s` the step began in. -/
theorem sameMachine_stepClosed (s : State) : StepClosed (SameMachine s) where
  cpu _ _ _ _ _ _ _ h := h
  write t a v h := h.trans (sameMachine_memWrite t a v)
  divider t h := h.trans (sameMachine_setDivider t 0)
  armed _ _ h := h
  fresh _ _ h := h
  flag _ _ h := h
  dispatchCost _ _ _ h := h
  device t fast k h := h.trans (sameMachine_deviceTick t fast k)
  count _ _ h := h

/-- Settles O40: the moves of a step keep the machine, so the step does. -/
theorem machineFixed : Obligations.MachineFixed := by
  unfold Obligations.MachineFixed
  intro s t hs
  exact step_keeps (sameMachine_stepClosed s) (SameMachine.refl s) hs

end Sys2Proof.Machine
end

