-- ==== Sys2Proof/Proofs/ResetState.lean ====
section
/-! The reset state (O45, O46, R800-R802): it meets each invariant that the steps keep, and its CPU registers depend on
the hardware model alone. -/

namespace Sys2Proof.Machine

/-! The invariants. -/

theorem memOk_resetWith (p : Params) (c : Cart) {rom : List Host.Cell} (h : storeWf Region.rom.blank rom = true) :
    MemOk (State.resetWith p c rom) :=
  ⟨resetMemory_wf rom h, rfl⟩

theorem lcdOn_resetWith (p : Params) (c : Cart) (rom : List Host.Cell) : lcdOn (State.resetWith p c rom) = true :=
  show (0x91 : Byte).getLsbD 7 = true by decide

/-- Reset starts the frame, at the OAM scan of line 0, with the LCD on (R802). -/
theorem ppuOk_resetWith (p : Params) (c : Cart) (rom : List Host.Cell) : PpuOk (State.resetWith p c rom) :=
  ⟨show 0 < 154 by decide, show 0 < 456 by decide, fun _ => rfl,
    fun hoff => absurd ((lcdOn_resetWith p c rom).symm.trans hoff) (by decide)⟩

/-- With TAC 0 the timer's signal is low whatever the divider counts. -/
theorem timerLineOk_resetTimer (d : BitVec 16) : TimerLineOk (resetTimer d) := by
  simp [TimerLineOk, timerClock, resetTimer]

/-- With STAT 0 no source is enabled, so the STAT line is low. -/
theorem statLineOk_resetPpu (cgb : Bool) : StatLineOk (resetPpu cgb) := by
  simp [StatLineOk, statCondition, resetPpu]

/-- With no button pressed every P1 line is high. -/
theorem p1LinesOk_resetJoypad : P1LinesOk resetJoypad := by
  unfold P1LinesOk
  decide

theorem linesOk_resetWith (p : Params) (c : Cart) (rom : List Host.Cell) : LinesOk (State.resetWith p c rom) :=
  (linesOk_iff _).mpr ⟨timerLineOk_resetTimer _, statLineOk_resetPpu _, p1LinesOk_resetJoypad⟩

/-- Each bank register that treats 0 as 1 starts at 1 (R41). -/
theorem banksOk_resetWith (p : Params) (c : Cart) (rom : List Host.Cell) : BanksOk (State.resetWith p c rom) := by
  simp only [BanksOk, State.resetWith]
  cases c.kind with
  | mbc0 => trivial
  | mbc1 => exact show (1 : BitVec 5) ≠ 0 by decide
  | mbc2 => exact show (1 : BitVec 4) ≠ 0 by decide
  | mbc3 => exact show (1 : BitVec 7) ≠ 0 by decide
  | mbc5 => trivial

/-- Settles O45: reset records no fault and meets each invariant. -/
theorem resetInvariants : Obligations.ResetInvariants := by
  unfold Obligations.ResetInvariants
  intro p c rom h s
  exact ⟨rfl, memOk_resetWith p c h, ppuOk_resetWith p c rom, linesOk_resetWith p c rom, banksOk_resetWith p c rom⟩

/-! The CPU registers. -/

/-- Settles O46: the registers are those of the model's column, joined into pairs. -/
theorem resetCpuSpec : Obligations.ResetCpu := by
  unfold Obligations.ResetCpu
  intro p c rom s
  have hcpu : s.cpu = resetCpu p.model := rfl
  simp only [readStackPair, readPair, hcpu]
  cases p.model <;> decide

end Sys2Proof.Machine
end
